-- ==== Sys2Proof/Word.lean ====
section
/-! DEFINITION. The word types of the block: every register, operand and interface value is an
unsigned 32-bit word (00_scope.md R8, R15); a command is one 40-bit word (30_encoding.md R90). -/

namespace Sys2Proof

/-- A 32-bit register, operand or interface value (R8 `XLEN = 32`, R15). -/
abbrev Word := BitVec 32

/-- A command word: `op[39:36] v[35] zero[34:32] arg[31:0]` (R90). -/
abbrev CommandWord := BitVec 40

end Sys2Proof
end

