-- ==== Sys2Proof/Config.lean ====
section
/-! DEFINITION. The parameters an implementation of the block fixes (00_scope.md R9, R11;
92_eei_decisions.md D10) and the free values: the answers of the environment (20_memory.md R56). -/

namespace Sys2Proof

/-- One answer of the environment to one transaction: `Ok` or `Err` (R51 to R55, R59). `Ok` carries
the 32-bit word a read returns; a write, a flush or a probe event does not look at it (log 4).
`Err` carries nothing the block reads (93 U13). -/
inductive Reply where
  | ok (data : Word)
  | err
  deriving DecidableEq, Repr, Inhabited

/-- What a poll whose read is answered `Err` does: ends the command (R140, the default) or counts as
an unsuccessful attempt (92 D10's named alternative `POLL_READ_ERR_POLICY`; log 9). -/
inductive PollReadErrPolicy where
  | abort
  | countAsAttempt
  deriving DecidableEq, Repr

/-- The parameters of R9, R11 and D10, each with the default the spec gives it. They are fixed for
the life of a machine; no step changes them. -/
structure Config where
  /-- `RESET_POLL_MAX` (R9). -/
  resetPollMax : Nat := 20
  /-- `RESET_POLL_DELAY_MS` (R9). -/
  resetPollDelayMs : Nat := 1
  /-- `FLASH_POLL_MAX` (R9). -/
  flashPollMax : Nat := 20
  /-- `FLASH_POLL_DELAY_MS` (R9): the default `none` issues no delay event, and a well-formed
  configuration keeps it (R144; log 10). -/
  flashPollDelayMs : Option Nat := none
  /-- `HALT_SETTLE_MS` (R9). -/
  haltSettleMs : Nat := 500
  /-- `RESET_RELEASE_MS` (R9). -/
  resetReleaseMs : Nat := 50
  /-- `DHCSR_ADDR` (R11). -/
  dhcsrAddr : Word := 0xE000EDF0#32
  /-- `DHCSR_HALT_WORD` (R11). -/
  dhcsrHaltWord : Word := 0xA05F0003#32
  /-- `POLL_READ_ERR_POLICY` (D10). -/
  pollReadErrPolicy : PollReadErrPolicy := .abort
  deriving DecidableEq, Repr

/-- FREE VALUE: what the environment answers to transaction number `n` where no scripted answer is
left (R56: any answer, independently of every other; log 3). It has no body: nothing is provable of
a value of it. -/
opaque Config.freeReply : Nat → Reply

end Sys2Proof
end

