-- ==== Sys2Proof/Syntax.lean ====
section
/-! DEFINITION. The fourteen commands (30_encoding.md R92), one constructor per row of
spec/opcode_table.json, and the four fields of a command word (R90). -/

namespace Sys2Proof

/-- A command with the operands its word carries (R92, R93). The four words `DIFF` compares are not
in its command word: they are sampled from the side ports (R91). -/
inductive Instr where
  /-- `DECODE_STATUS value` (R110). -/
  | decodeStatus (value : Word)
  /-- `DECODE_CONTROL value` (R111). -/
  | decodeControl (value : Word)
  /-- `DIFF` (R112). -/
  | diff
  /-- `READ v` (R120). -/
  | read (verbose : Bool)
  /-- `READ_IDR` (R121). -/
  | readIdr
  /-- `WRITE_CONTROL_BIT_SET mask` (R125). -/
  | writeControlBitSet (mask : Word)
  /-- `WRITE_CONTROL_BIT_CLEAR mask` (R126). -/
  | writeControlBitClear (mask : Word)
  /-- `WRITE_CONTROL_RAW value` (R124). -/
  | writeControlRaw (value : Word)
  /-- `REFRESH v` (R122). -/
  | refresh (verbose : Bool)
  /-- `REFRESH_AND_REPORT label` (R123). -/
  | refreshAndReport (label : Word)
  /-- `WAIT_RESET_ASSERTED` (R141). -/
  | waitResetAsserted
  /-- `CLEAR_RESET_REQUEST` (R127). -/
  | clearResetRequest
  /-- `WAIT_FLASH_READY` (R142). -/
  | waitFlashReady
  /-- `UNLOCK` (R150). -/
  | unlock
  deriving DecidableEq, Repr

/-- The four fields of a command word, before any check (R90). -/
structure RawCommand where
  op : BitVec 4
  v : Bool
  zero : BitVec 3
  arg : Word
  deriving DecidableEq, Repr

/-- Why a command word is reserved or ill-formed: the cases (a) to (d) of R94. -/
inductive Defect where
  /-- (a) `op = 0xE` or `0xF`. -/
  | reservedOp
  /-- (b) `zero != 000`. -/
  | zeroField
  /-- (c) `v = 1` on a command that does not use `v`. -/
  | verboseUnused
  /-- (d) `arg != 0` on a command that does not use `arg`. -/
  | argUnused
  deriving DecidableEq, Repr

end Sys2Proof
end

