-- ==== Sys2Proof/WellFormed.lean ====
section
/-! DEFINITION. What makes a command word well-formed (30_encoding.md R94) and a configuration
well-formed (20_memory.md R63, 42_session_polling.md R144). -/

namespace Sys2Proof

/-- R92, column "uses `v`": `READ` and `REFRESH`. -/
def RawCommand.usesVerbose (r : RawCommand) : Bool :=
  r.op == 0x3#4 || r.op == 0x8#4

/-- R92, column "uses `arg` as": a raw value, a bit mask or a label token. -/
def RawCommand.usesArg (r : RawCommand) : Bool :=
  r.op == 0x0#4 || r.op == 0x1#4 || r.op == 0x5#4 || r.op == 0x6#4 || r.op == 0x7#4 || r.op == 0x9#4

/-- R94 (a). -/
def RawCommand.opDefined (r : RawCommand) : Bool :=
  r.op != 0xE#4 && r.op != 0xF#4

/-- R94 (b). -/
def RawCommand.zeroClear (r : RawCommand) : Bool :=
  r.zero == 0#3

/-- R94 (c). -/
def RawCommand.verboseAllowed (r : RawCommand) : Bool :=
  !r.v || r.usesVerbose

/-- R94 (d). -/
def RawCommand.argAllowed (r : RawCommand) : Bool :=
  r.arg == 0#32 || r.usesArg

/-- The first of R94's cases (a) to (d) that a command falls under, if any. -/
def RawCommand.defect (r : RawCommand) : Option Defect :=
  if !r.opDefined then some .reservedOp
  else if !r.zeroClear then some .zeroField
  else if !r.verboseAllowed then some .verboseUnused
  else if !r.argAllowed then some .argUnused
  else none

/-- A command that R94 does not refuse. -/
def RawCommand.wellFormed (r : RawCommand) : Bool :=
  r.defect.isNone

/-- R63: `DHCSR_ADDR mod 4 = 0`. -/
def Config.dhcsrAligned (c : Config) : Bool :=
  c.dhcsrAddr.toNat % 4 == 0

/-- R144: `WAIT_FLASH_READY` has no delay, and a model must not add one. -/
def Config.flashUndelayed (c : Config) : Bool :=
  c.flashPollDelayMs.isNone

/-- The conditions the spec puts on the parameters. -/
def Config.wellFormed (c : Config) : Bool :=
  c.dhcsrAligned && c.flashUndelayed

end Sys2Proof
end

