-- ==== Sys2Proof/Decode.lean ====
section
/-! DEFINITION. The decoder of command words, total, refusing reserved and ill-formed words by name
(30_encoding.md R90, R92 to R94), and the encoder. -/

namespace Sys2Proof

/-- The fields of a command word, at the bit positions of R90. -/
def fieldsOf (w : CommandWord) : RawCommand where
  op := w.extractLsb' 36 4
  v := w.getLsbD 35
  zero := w.extractLsb' 32 3
  arg := w.extractLsb' 0 32

/-- The command an opcode stands for, with its operands; the opcode map of R92. -/
def instrOf (r : RawCommand) : Except Defect Instr :=
  match r.op.toNat with
  | 0x0 => .ok (.decodeStatus r.arg)
  | 0x1 => .ok (.decodeControl r.arg)
  | 0x2 => .ok .diff
  | 0x3 => .ok (.read r.v)
  | 0x4 => .ok .readIdr
  | 0x5 => .ok (.writeControlBitSet r.arg)
  | 0x6 => .ok (.writeControlBitClear r.arg)
  | 0x7 => .ok (.writeControlRaw r.arg)
  | 0x8 => .ok (.refresh r.v)
  | 0x9 => .ok (.refreshAndReport r.arg)
  | 0xA => .ok .waitResetAsserted
  | 0xB => .ok .clearResetRequest
  | 0xC => .ok .waitFlashReady
  | 0xD => .ok .unlock
  | _ => .error .reservedOp

/-- The decoder: R94's checks, then the opcode map. -/
def decode (w : CommandWord) : Except Defect Instr :=
  match (fieldsOf w).defect with
  | some d => .error d
  | none => instrOf (fieldsOf w)

/-- The fields of a command, every field it does not use zero (R92, R94). -/
def rawOf : Instr → RawCommand
  | .decodeStatus value => ⟨0x0#4, false, 0#3, value⟩
  | .decodeControl value => ⟨0x1#4, false, 0#3, value⟩
  | .diff => ⟨0x2#4, false, 0#3, 0#32⟩
  | .read v => ⟨0x3#4, v, 0#3, 0#32⟩
  | .readIdr => ⟨0x4#4, false, 0#3, 0#32⟩
  | .writeControlBitSet mask => ⟨0x5#4, false, 0#3, mask⟩
  | .writeControlBitClear mask => ⟨0x6#4, false, 0#3, mask⟩
  | .writeControlRaw value => ⟨0x7#4, false, 0#3, value⟩
  | .refresh v => ⟨0x8#4, v, 0#3, 0#32⟩
  | .refreshAndReport label => ⟨0x9#4, false, 0#3, label⟩
  | .waitResetAsserted => ⟨0xA#4, false, 0#3, 0#32⟩
  | .clearResetRequest => ⟨0xB#4, false, 0#3, 0#32⟩
  | .waitFlashReady => ⟨0xC#4, false, 0#3, 0#32⟩
  | .unlock => ⟨0xD#4, false, 0#3, 0#32⟩

/-- The command word made of four fields (R90): `op : v : zero : arg`, most significant first. -/
def wordOf (r : RawCommand) : CommandWord :=
  r.op ++ (BitVec.ofBool r.v ++ (r.zero ++ r.arg))

/-- The encoder. -/
def encode (i : Instr) : CommandWord :=
  wordOf (rawOf i)

/-- The command the decoder reads from a word whose bits are `w`, `nbits` of them given and the rest
zero. A command is ONE 40-bit word presented at a port (R90), so it is a number and has no byte
layout; bits that do not fit a command word make it no command (log 15). -/
def decodeTableWord (nbits w : Nat) : Option Instr :=
  if w % 2 ^ nbits < 2 ^ 40 then
    match decode (BitVec.ofNat 40 (w % 2 ^ nbits)) with
    | .ok i => some i
    | .error _ => none
  else none

end Sys2Proof
end

