-- ==== Sys2Proof/Machine/State.lean ====
section
/-! DEFINITION. The state of the block (10_state.md), the interface events it issues (00_scope.md
R17, 20_memory.md R51 to R61), and the state after reset (R40). Plain data throughout. -/

namespace Sys2Proof.Machine

/-- The snapshot registers `SNAP.status` and `SNAP.control` (R20). -/
structure Snapshot where
  status : Word
  control : Word
  deriving DecidableEq, Repr

/-- The values of the step register (R24). -/
inductive UnlockStep where
  | idle
  | s1 | s2 | s3 | s4 | s5 | s6 | s7 | s8 | s9 | s10 | s11
  | done
  | failed
  | abortSecured
  deriving DecidableEq, Repr

/-- The cause codes (R181). Codes 12 to 15 are never used. -/
inductive Cause where
  | none
  /-- Reserved for a surrounding model; the block never raises it (R7). -/
  | probeNotFound
  /-- Reserved likewise. -/
  | probeOpenFailure
  | attachInitFailure
  | regReadFailure
  | regWriteFailure
  | timeoutReset
  | timeoutFlashReady
  | stepTransportFailure
  | targetSecured
  | noSession
  | badCommand
  deriving DecidableEq, Repr

/-- The fourteen fields `DIFF` compares, in R112's order. -/
inductive FieldId where
  | massEraseAck | flashReady | security | systemReset
  | haltState | stopState | waitState | statusValue
  | eraseInProgress | debugDisable | debugRequest | sysResetRequest | coreHold | controlValue
  deriving DecidableEq, Repr

/-- An entry `(field_name, old_value, new_value)` of a diff (R112); a flag's value is 0 or 1. -/
structure DiffEntry where
  field : FieldId
  old : Word
  new : Word
  deriving DecidableEq, Repr

/-- The result of a command (R95), with the diff entries `DIFF` returns beside it (R112, R30(c)). -/
structure Result where
  ok : Bool
  cause : Cause
  failStep : Fin 12
  d0 : Word
  d1 : Word
  entries : List DiffEntry
  deriving DecidableEq, Repr

/-- The items of the log stream (R61). -/
inductive LogItem where
  | snapshot (status control : Word)
  | reason (label : Word)
  | diff (entries : List DiffEntry)
  | idrValue (value : Word)
  | idrWarning (value expected : Word)
  | securedGuidance
  | dhcsr (before after : Word)
  | dhcsrFinal (value : Word)
  | error (cause : Cause) (failStep : Fin 12)
  deriving DecidableEq, Repr

/-- An event the block issues, with the environment's answer to it (R17). A read's answer is the word
of `Ok`, or `none` for `Err`; the others' is whether the answer was `Ok`. A delay and a log item have
no answer (R60, R61). -/
inductive Event where
  /-- `APRead(ap, off)` (R51). -/
  | apRead (ap off : Nat) (answer : Option Word)
  /-- `APWrite(ap, off, v)` (R52). -/
  | apWrite (ap off : Nat) (value : Word) (ok : Bool)
  /-- `MemRead(addr, 4)` (R53). -/
  | memRead (addr : Word) (answer : Option Word)
  /-- `MemWrite(addr, 4, v)` (R54). -/
  | memWrite (addr value : Word) (ok : Bool)
  /-- `MemFlush()` (R55). -/
  | memFlush (ok : Bool)
  /-- `ProbeAttach()` (R59). -/
  | probeAttach (ok : Bool)
  /-- `ProbeTargetReset()` (R59). -/
  | probeTargetReset (ok : Bool)
  /-- `Delay(ms)` (R60). -/
  | delay (ms : Nat)
  /-- `Log(item)` (R61). -/
  | log (item : LogItem)
  deriving DecidableEq, Repr

/-- The four side operand ports of `DIFF` (R91). -/
structure SidePorts where
  oldStatus : Word
  oldControl : Word
  newStatus : Word
  newControl : Word
  deriving DecidableEq, Repr

/-- A word the memory-mapped interface accepted and no flush has confirmed (R67). -/
structure PostedWrite where
  addr : Word
  value : Word
  deriving DecidableEq, Repr

/-- What the host does at the block when it is not busy: it presents a command word with the side
ports (R90, R91), or it resets the block (R210). -/
inductive HostInput where
  | command (word : CommandWord) (ports : SidePorts)
  | reset
  deriving DecidableEq, Repr

/-- The state of the machine. The first seven fields are the block's (R20 to R26, R91, R95); `config`
is fixed; the rest are inputs, outputs and hidden state around the block, held as plain data. -/
structure State where
  /-- `SNAP.status`, `SNAP.control`; `SNAP.valid` is `snap.isSome`. With no session they hold no
  value, and R21 forbids giving them one (log 7). -/
  snap : Option Snapshot
  /-- `step` (R24). -/
  stepReg : UnlockStep
  /-- `poll_cnt` (R25). -/
  pollCnt : Nat
  /-- `cause` (R26). -/
  cause : Cause
  /-- `fail_step` (R26). -/
  failStep : Fin 12
  /-- `OLD_S`, `OLD_C`, `NEW_S`, `NEW_C` as sampled with the last command (R91). -/
  sidePorts : SidePorts
  /-- `RES`: the result of the last command that ended since reset, if any (R95; log 13). -/
  result : Option Result
  /-- The parameters (R9, R11). No step changes them (log 8). -/
  config : Config
  /-- MODEL's own: what the host does next, in order (log 5). -/
  inputs : List HostInput
  /-- MODEL's own: the environment's next answers, in order, as far as they are written down (log 3). -/
  script : List Reply
  /-- MODEL's own: how many transactions have been answered; the argument of the free value
  `Config.freeReply` (log 3). -/
  asked : Nat
  /-- Hidden state of the environment: memory-mapped writes not yet flushed, oldest first (R36, R67;
  log 12). -/
  posted : List PostedWrite
  /-- Every event issued so far, oldest first (R17; log 11). -/
  trace : List Event
  deriving DecidableEq, Repr

/-- Why the machine stops with a fault: NEVER. The spec gives every failed transaction, exhausted
budget, secured target and refused command a next state (R163, R185, R190 to R192), so there is no
constructor and no meaning raises one (log 22; safe). -/
inductive Fault where
  deriving DecidableEq, Repr

/-- Why the machine refuses a command. -/
inductive Refusal where
  /-- An arm of `exec` that has no meaning yet raises it; every arm has one, so nobody does. Safe: a
  stop proves nothing about the hardware. -/
  | notModelled (mnemonic : String)
  deriving DecidableEq, Repr

/-- The state after reset (R40): no session, `step = IDLE`, counters and cause 0, not busy. The fields
around the block are empty: nothing presented, answered or issued; the side ports, for which the
spec gives no value, are 0 (log 3, 5, 6, 11, 12, 13). -/
def State.reset : State where
  snap := none
  stepReg := .idle
  pollCnt := 0
  cause := .none
  failStep := 0
  sidePorts := ⟨0, 0, 0, 0⟩
  result := none
  config := {}
  inputs := []
  script := []
  asked := 0
  posted := []
  trace := []

end Sys2Proof.Machine
end

