-- ==== Sys2Proof/Machine/Operands.lean ====
section
/-! DEFINITION. Operand forms: the fixed addresses (00_scope.md R8), the masks of the named fields
(R10), the label token (R12, 30_encoding.md R93), the baseline-trust writes' values (41_session_access.md
R125, R126) and the side operands of `DIFF` (30_encoding.md R91). -/

namespace Sys2Proof.Machine

/-- `AP_MEM`: the default Memory Access Port; no operation addresses it (R8, R65). -/
def apMem : Nat := 0
/-- `AP_MDM`: the MDM Access Port (R8). -/
def apMdm : Nat := 1
/-- `OFF_STATUS` (R8). -/
def offStatus : Nat := 0x00
/-- `OFF_CONTROL` (R8). -/
def offControl : Nat := 0x04
/-- `OFF_IDR` (R8). -/
def offIdr : Nat := 0xFC
/-- `IDR_EXPECTED` (R8). -/
def idrExpected : Word := 0x001C0020#32

/-- `S_MASS_ERASE_ACK` (R10). -/
def maskMassEraseAck : Word := 0x00000001#32
/-- `S_FLASH_READY` (R10). -/
def maskFlashReady : Word := 0x00000002#32
/-- `S_SECURITY` (R10). -/
def maskSecurity : Word := 0x00000004#32
/-- `S_SYSTEM_RESET` (R10). -/
def maskSystemReset : Word := 0x00000008#32
/-- `S_HALT_STATE` (R10). -/
def maskHaltState : Word := 0x00010000#32
/-- `S_STOP_STATE` (R10). -/
def maskStopState : Word := 0x00020000#32
/-- `S_WAIT_STATE` (R10). -/
def maskWaitState : Word := 0x00040000#32
/-- `C_ERASE_IN_PROGRESS` (R10). -/
def maskEraseInProgress : Word := 0x00000001#32
/-- `C_DEBUG_DISABLE` (R10). -/
def maskDebugDisable : Word := 0x00000002#32
/-- `C_DEBUG_REQUEST` (R10). -/
def maskDebugRequest : Word := 0x00000004#32
/-- `C_SYS_RESET_REQUEST` (R10). -/
def maskSysResetRequest : Word := 0x00000008#32
/-- `C_CORE_HOLD` (R10). -/
def maskCoreHold : Word := 0x00000010#32

/-- `REASON_DBG_REQ`, the token of the one label the spec gives (R12). -/
def reasonDbgReq : Word := 0x00000001#32

/-- The string a label token stands for, where the spec gives one (R12, R93); every other token is
legal and is logged as it is. -/
def labelText (token : Word) : Option String :=
  if token = reasonDbgReq then some "DBG_REQ_BIT set" else none

/-- The word `WRITE_CONTROL_BIT_SET` writes: the cached baseline with the mask's bits set (R125). -/
def setBits (baseline mask : Word) : Word := baseline ||| mask

/-- The word `WRITE_CONTROL_BIT_CLEAR` writes: the cached baseline with the mask's bits clear (R126). -/
def clearBits (baseline mask : Word) : Word := baseline &&& ~~~mask

/-- The old snapshot on the side ports of `DIFF` (R91). -/
def oldOperand (p : SidePorts) : Snapshot := ⟨p.oldStatus, p.oldControl⟩

/-- The new snapshot on the side ports of `DIFF` (R91). -/
def newOperand (p : SidePorts) : Snapshot := ⟨p.newStatus, p.newControl⟩

end Sys2Proof.Machine
end

