-- ==== Sys2Proof/Machine/Flags.lean ====
section
/-! DEFINITION. The decoded views of the Status and Control registers and their packed forms
(30_encoding.md R80 to R83, 40_codec.md R110, R111), and the field-by-field comparison of two
snapshots (R112). The flags are not state: they are functions of the snapshot (10_state.md R28). -/

namespace Sys2Proof.Machine

/-- `zext_32` of a bit (R16). -/
def zext32 (b : Bool) : Word := (BitVec.ofBool b).setWidth 32

/-- `MdmApStatus`: the seven flags and the raw value (R28). -/
structure StatusView where
  massEraseAck : Bool
  flashReady : Bool
  security : Bool
  systemReset : Bool
  haltState : Bool
  stopState : Bool
  waitState : Bool
  value : Word
  deriving DecidableEq, Repr

/-- `MdmApControl`: the five flags and the raw value (R28). -/
structure ControlView where
  eraseInProgress : Bool
  debugDisable : Bool
  debugRequest : Bool
  sysResetRequest : Bool
  coreHold : Bool
  value : Word
  deriving DecidableEq, Repr

/-- Format `STATUS` (R80, R110). `systemReset` is the plain bit: 1 when the system is NOT in reset (R19). -/
def decodeStatus (value : Word) : StatusView where
  massEraseAck := value.getLsbD 0
  flashReady := value.getLsbD 1
  security := value.getLsbD 2
  systemReset := value.getLsbD 3
  haltState := value.getLsbD 16
  stopState := value.getLsbD 17
  waitState := value.getLsbD 18
  value := value

/-- Format `CONTROL` (R82, R111). -/
def decodeControl (value : Word) : ControlView where
  eraseInProgress := value.getLsbD 0
  debugDisable := value.getLsbD 1
  debugRequest := value.getLsbD 2
  sysResetRequest := value.getLsbD 3
  coreHold := value.getLsbD 4
  value := value

/-- Format `SVIEW`, bit 0 `mass_erase_ack` up to bit 6 `wait_state` (R81). -/
def sview (w : StatusView) : BitVec 7 :=
  BitVec.ofBool w.waitState ++ (BitVec.ofBool w.stopState ++ (BitVec.ofBool w.haltState ++
    (BitVec.ofBool w.systemReset ++ (BitVec.ofBool w.security ++
      (BitVec.ofBool w.flashReady ++ BitVec.ofBool w.massEraseAck)))))

/-- Format `CVIEW`, bit 0 `erase_in_progress` up to bit 4 `core_hold` (R83). -/
def cview (w : ControlView) : BitVec 5 :=
  BitVec.ofBool w.coreHold ++ (BitVec.ofBool w.sysResetRequest ++ (BitVec.ofBool w.debugRequest ++
    (BitVec.ofBool w.debugDisable ++ BitVec.ofBool w.eraseInProgress)))

/-- The decoded Status flags of the snapshot, while there is one (R28). -/
def State.statusView (s : State) : Option StatusView := s.snap.map fun sn => decodeStatus sn.status

/-- The decoded Control flags of the snapshot, while there is one (R28). -/
def State.controlView (s : State) : Option ControlView := s.snap.map fun sn => decodeControl sn.control

/-- The fields `DIFF` compares, in the order it compares them (R112). -/
def allFields : List FieldId :=
  [.massEraseAck, .flashReady, .security, .systemReset, .haltState, .stopState, .waitState, .statusValue,
   .eraseInProgress, .debugDisable, .debugRequest, .sysResetRequest, .coreHold, .controlValue]

/-- The `id` of a field (R112). -/
def fieldIndex : FieldId → Nat
  | .massEraseAck => 0
  | .flashReady => 1
  | .security => 2
  | .systemReset => 3
  | .haltState => 4
  | .stopState => 5
  | .waitState => 6
  | .statusValue => 7
  | .eraseInProgress => 8
  | .debugDisable => 9
  | .debugRequest => 10
  | .sysResetRequest => 11
  | .coreHold => 12
  | .controlValue => 13

/-- The name of a field (R112). -/
def fieldName : FieldId → String
  | .massEraseAck => "status.mass_erase_ack"
  | .flashReady => "status.flash_ready"
  | .security => "status.security"
  | .systemReset => "status.system_reset"
  | .haltState => "status.halt_state"
  | .stopState => "status.stop_state"
  | .waitState => "status.wait_state"
  | .statusValue => "status.value"
  | .eraseInProgress => "control.erase_in_progress"
  | .debugDisable => "control.debug_disable"
  | .debugRequest => "control.debug_request"
  | .sysResetRequest => "control.sys_reset_request"
  | .coreHold => "control.core_hold"
  | .controlValue => "control.value"

/-- The value of a field of a snapshot: a flag's bit, or the whole register (R112). -/
def fieldValue (sn : Snapshot) : FieldId → Word
  | .massEraseAck => zext32 (decodeStatus sn.status).massEraseAck
  | .flashReady => zext32 (decodeStatus sn.status).flashReady
  | .security => zext32 (decodeStatus sn.status).security
  | .systemReset => zext32 (decodeStatus sn.status).systemReset
  | .haltState => zext32 (decodeStatus sn.status).haltState
  | .stopState => zext32 (decodeStatus sn.status).stopState
  | .waitState => zext32 (decodeStatus sn.status).waitState
  | .statusValue => sn.status
  | .eraseInProgress => zext32 (decodeControl sn.control).eraseInProgress
  | .debugDisable => zext32 (decodeControl sn.control).debugDisable
  | .debugRequest => zext32 (decodeControl sn.control).debugRequest
  | .sysResetRequest => zext32 (decodeControl sn.control).sysResetRequest
  | .coreHold => zext32 (decodeControl sn.control).coreHold
  | .controlValue => sn.control

/-- The entry a field contributes to a diff, if its value differs (R112). -/
def diffEntry (old new : Snapshot) (f : FieldId) : Option DiffEntry :=
  if fieldValue old f = fieldValue new f then none else some ⟨f, fieldValue old f, fieldValue new f⟩

/-- `entries` of R112. -/
def diffEntries (old new : Snapshot) : List DiffEntry :=
  allFields.filterMap (diffEntry old new)

/-- `CHG` of R112: bit `id` is 1 exactly when the field `id` differs. -/
def changeMask (old new : Snapshot) : BitVec 14 :=
  allFields.foldl
    (fun chg f => if fieldValue old f = fieldValue new f then chg else chg ||| (1#14 <<< fieldIndex f)) 0#14

end Sys2Proof.Machine
end

