-- ==== Sys2Proof/Machine/Ops.lean ====
section
/-! DEFINITION. The operations every command is made of: asking the environment (20_memory.md R50 to
R61), loading the snapshot (10_state.md R22), polling (42_session_polling.md R140), starting a command
(60_exceptions.md R180) and the ways it ends (30_encoding.md R95, 60_exceptions.md R185, R190, R191). -/

namespace Sys2Proof.Machine

/-! ### The step register and the cause codes as numbers -/

/-- The 4-bit encoding of the step register (R24). -/
def stepCode : UnlockStep → BitVec 4
  | .idle => 0
  | .s1 => 1
  | .s2 => 2
  | .s3 => 3
  | .s4 => 4
  | .s5 => 5
  | .s6 => 6
  | .s7 => 7
  | .s8 => 8
  | .s9 => 9
  | .s10 => 10
  | .s11 => 11
  | .done => 12
  | .failed => 13
  | .abortSecured => 14

/-- The cause codes (R181). -/
def causeCode : Cause → BitVec 4
  | .none => 0
  | .probeNotFound => 1
  | .probeOpenFailure => 2
  | .attachInitFailure => 3
  | .regReadFailure => 4
  | .regWriteFailure => 5
  | .timeoutReset => 6
  | .timeoutFlashReady => 7
  | .stepTransportFailure => 8
  | .targetSecured => 9
  | .noSession => 10
  | .badCommand => 11

/-! ### How a part of a command leaves the block -/

/-- A part of a command ends with a value, or raises a failure (R16 `raise Fail(cause)`); either way
with the state its transactions left. -/
inductive Ending (α : Type) where
  | ok (value : α) (s : State)
  | fail (cause : Cause) (s : State)

/-- Go on with `f` unless the part before failed (R185: nothing after a failing transaction is issued). -/
def Ending.andThen {α β : Type} (e : Ending α) (f : α → State → Ending β) : Ending β :=
  match e with
  | .ok a s => f a s
  | .fail c s => .fail c s

/-! ### Asking the environment -/

/-- The environment's answer to the next transaction: any answer (R56; log 3). -/
def State.nextReply (s : State) : Reply :=
  match s.script with
  | r :: _ => r
  | [] => Config.freeReply s.asked

/-- The next transaction has its answer. -/
def State.consume (s : State) : State :=
  { s with script := s.script.tail, asked := s.asked + 1 }

/-- An event is issued. -/
def State.emit (e : Event) (s : State) : State :=
  { s with trace := s.trace ++ [e] }

/-- `APRead(AP_MDM, off)` (R51, R183). -/
def apRead (off : Nat) (s : State) : Ending Word :=
  match s.nextReply with
  | .ok v => .ok v (s.consume.emit (.apRead apMdm off (some v)))
  | .err => .fail .regReadFailure (s.consume.emit (.apRead apMdm off none))

/-- `APWrite(AP_MDM, OFF_CONTROL, v)`: the Control register is the only one ever written (R52, R184). -/
def apWriteControl (v : Word) (s : State) : Ending Unit :=
  match s.nextReply with
  | .ok _ => .ok () (s.consume.emit (.apWrite apMdm offControl v true))
  | .err => .fail .regWriteFailure (s.consume.emit (.apWrite apMdm offControl v false))

/-- `MemRead(addr, 4)` (R53, R187). -/
def memRead (addr : Word) (s : State) : Ending Word :=
  match s.nextReply with
  | .ok v => .ok v (s.consume.emit (.memRead addr (some v)))
  | .err => .fail .stepTransportFailure (s.consume.emit (.memRead addr none))

/-- An accepted memory-mapped write is posted until a flush confirms it (R67; log 12). -/
def State.post (addr v : Word) (s : State) : State :=
  { s with posted := s.posted ++ [⟨addr, v⟩] }

/-- A flush has delivered every posted write (R67). -/
def State.deliverPosted (s : State) : State :=
  { s with posted := [] }

/-- `MemWrite(addr, 4, v)` (R54, R67, R187). -/
def memWrite (addr v : Word) (s : State) : Ending Unit :=
  match s.nextReply with
  | .ok _ => .ok () ((s.consume.emit (.memWrite addr v true)).post addr v)
  | .err => .fail .stepTransportFailure (s.consume.emit (.memWrite addr v false))

/-- `MemFlush()`, the one barrier (R55, R67, R187). -/
def memFlush (s : State) : Ending Unit :=
  match s.nextReply with
  | .ok _ => .ok () (s.consume.emit (.memFlush true)).deliverPosted
  | .err => .fail .stepTransportFailure (s.consume.emit (.memFlush false))

/-- `ProbeAttach()` (R59, R186). -/
def probeAttach (s : State) : Ending Unit :=
  match s.nextReply with
  | .ok _ => .ok () (s.consume.emit (.probeAttach true))
  | .err => .fail .attachInitFailure (s.consume.emit (.probeAttach false))

/-- `ProbeTargetReset()` (R59, R186). -/
def probeTargetReset (s : State) : Ending Unit :=
  match s.nextReply with
  | .ok _ => .ok () (s.consume.emit (.probeTargetReset true))
  | .err => .fail .attachInitFailure (s.consume.emit (.probeTargetReset false))

/-- `Delay(ms)`: no answer, no failure (R60). -/
def State.delay (ms : Nat) (s : State) : State := s.emit (.delay ms)

/-- `Log(item)`: no answer, no failure (R61). -/
def State.log (item : LogItem) (s : State) : State := s.emit (.log item)

/-! ### The snapshot -/

/-- Load both snapshot registers; the snapshot exists from now on (R22 (a), (b)). -/
def State.loadSnapshot (status control : Word) (s : State) : State :=
  { s with snap := some ⟨status, control⟩ }

/-- Load `SNAP.status` alone (R22 (c)). -/
def State.loadStatus (status : Word) (s : State) : State :=
  { s with snap := s.snap.map fun sn => { sn with status := status } }

/-- The session is destroyed (R164), or none exists yet (R151): `SNAP.valid <- 0`. -/
def State.dropSession (s : State) : State :=
  { s with snap := none }

/-- The snapshot a command needs; with `SNAP.valid = 0` the command ends with `NO_SESSION` before any
transaction (R190). -/
def session (s : State) : Ending Snapshot :=
  match s.snap with
  | some sn => .ok sn s
  | none => .fail .noSession s

/-- `Reload()`: Status, then Control; it loads nothing itself (R119). -/
def reload (s : State) : Ending (Word × Word) :=
  (apRead offStatus s).andThen fun st s =>
  (apRead offControl s).andThen fun ct s =>
  .ok (st, ct) s

/-! ### Polling -/

/-- `poll_cnt <- 0` (R141, R142). -/
def State.clearPolls (s : State) : State :=
  { s with pollCnt := 0 }

/-- `poll_cnt <- poll_cnt + 1` (R140). -/
def State.countPoll (s : State) : State :=
  { s with pollCnt := s.pollCnt + 1 }

/-- `Poll()`: one read of Status, counted, which loads `SNAP.status` (R140). A read answered `Err`
ends the command; under the alternative policy of D10 it is an attempt that saw no value (log 9). -/
def poll (s : State) : Ending (Option Word) :=
  match apRead offStatus s with
  | .ok v t => .ok (some v) (t.loadStatus v).countPoll
  | .fail c t =>
    match s.config.pollReadErrPolicy with
    | .abort => .fail c t
    | .countAsAttempt => .ok none t.countPoll

/-! ### Starting and ending a command -/

/-- The prologue of every command: `cause <- 0`, `fail_step <- 0` (R180). -/
def State.accept (s : State) : State :=
  { s with cause := .none, failStep := 0 }

/-- `return Ok(d0, d1)`: the result of a success (R95), with the entries `DIFF` returns. -/
def State.succeed (d0 d1 : Word) (entries : List DiffEntry) (s : State) : State :=
  { s with result := some ⟨true, s.cause, s.failStep, d0, d1, entries⟩ }

/-- What a failure or a refusal records (the block's "trap entry", R185, R190, R191): the cause, the
step it happened in (0 outside `UNLOCK`), and a result with `ok = 0` and no data. -/
def State.failWith (c : Cause) (n : Fin 12) (s : State) : State :=
  { s with cause := c, failStep := n, result := some ⟨false, c, n, 0, 0, []⟩ }

/-- The end of a command issued on its own (R95, R185). -/
def Ending.finish (e : Ending (Word × Word)) : State :=
  match e with
  | .ok (d0, d1) s => s.succeed d0 d1 []
  | .fail c s => s.failWith c 0

/-- A command issued on its own: prologue, body, end (R180, R185). -/
def standalone (body : State → Ending (Word × Word)) (s : State) : State :=
  (body s.accept).finish

/-- A reserved or ill-formed command word: `cause <- BAD_COMMAND`, `fail_step <- 0`, and nothing else
but the result (R94, R191). -/
def State.refuseBadCommand (s : State) : State :=
  s.accept.failWith .badCommand 0

/-- Reset of the block (R210, R40): every register to its reset value; no event is issued, and what
lies around the block (its inputs, the environment, the events issued so far) is left alone (log 20). -/
def State.blockReset (s : State) : State :=
  { s with
    snap := none, stepReg := .idle, pollCnt := 0, cause := .none, failStep := 0, result := none }

end Sys2Proof.Machine
end

