-- ==== Sys2Proof/Machine/Codec.lean ====
section
/-! DEFINITION. The Register Codec family: `DECODE_STATUS`, `DECODE_CONTROL`, `DIFF` (40_codec.md).
Pure functions of their operands: no transaction, no register read or written but the prologue's. -/

namespace Sys2Proof.Machine

/-- `DECODE_STATUS value` (R110). -/
def execDecodeStatus (value : Word) (s : State) : Host.Outcome State Fault Refusal :=
  .next (s.accept.succeed (decodeStatus value).value ((sview (decodeStatus value)).setWidth 32) [])

/-- `DECODE_CONTROL value` (R111). -/
def execDecodeControl (value : Word) (s : State) : Host.Outcome State Fault Refusal :=
  .next (s.accept.succeed (decodeControl value).value ((cview (decodeControl value)).setWidth 32) [])

/-- `DIFF` of the snapshots on the side ports (R112, R91). -/
def execDiff (s : State) : Host.Outcome State Fault Refusal :=
  .next (s.accept.succeed
    ((changeMask (oldOperand s.sidePorts) (newOperand s.sidePorts)).setWidth 32) 0
    (diffEntries (oldOperand s.sidePorts) (newOperand s.sidePorts)))

end Sys2Proof.Machine
end

