-- ==== Sys2Proof/Machine/Session.lean ====
section
/-! DEFINITION. The MDM-AP Session family, reads and writes (41_session_access.md). Each command has a
procedure, which `UNLOCK` calls too (43_orchestrator.md, opening), and its meaning as a command. -/

namespace Sys2Proof.Machine

/-- `if v == 1: Log(Snapshot(s, c))` (R120, R122). -/
def State.logSnapshot (verbose : Bool) (st ct : Word) (s : State) : State :=
  if verbose then s.log (.snapshot st ct) else s

/-- The body of `READ` (R120). -/
def readProc (verbose : Bool) (s : State) : Ending (Word × Word) :=
  (reload s).andThen fun r s =>
  .ok r ((s.loadSnapshot r.1 r.2).logSnapshot verbose r.1 r.2)

/-- The body of `READ_IDR` (R121). -/
def readIdrProc (s : State) : Ending Word :=
  apRead offIdr s

/-- The body of `REFRESH` (R122). -/
def refreshProc (verbose : Bool) (s : State) : Ending (Word × Word) :=
  (session s).andThen fun _ s =>
  (reload s).andThen fun r s =>
  .ok r ((s.loadSnapshot r.1 r.2).logSnapshot verbose r.1 r.2)

/-- The body of `REFRESH_AND_REPORT` (R123): the diff is against the pre-call snapshot. -/
def refreshAndReportProc (label : Word) (s : State) : Ending (Word × Word) :=
  (session s).andThen fun old s =>
  (reload s).andThen fun r s =>
  .ok r (((s.log (.reason label)).log (.diff (diffEntries old ⟨r.1, r.2⟩))).loadSnapshot r.1 r.2)

/-- The body of `WRITE_CONTROL_RAW` (R124). -/
def writeControlRawProc (value : Word) (s : State) : Ending Unit :=
  (session s).andThen fun _ s =>
  apWriteControl value s

/-- The body of `WRITE_CONTROL_BIT_SET` (R125): the baseline is the cached Control value. -/
def writeControlBitSetProc (mask : Word) (s : State) : Ending Unit :=
  (session s).andThen fun sn s =>
  apWriteControl (setBits sn.control mask) s

/-- The body of `WRITE_CONTROL_BIT_CLEAR` (R126). -/
def writeControlBitClearProc (mask : Word) (s : State) : Ending Unit :=
  (session s).andThen fun sn s =>
  apWriteControl (clearBits sn.control mask) s

/-- The body of `CLEAR_RESET_REQUEST`: the bit-clear of the system-reset-request bit (R127, R97). -/
def clearResetRequestProc (s : State) : Ending Unit :=
  writeControlBitClearProc maskSysResetRequest s

/-- A command without result data returns `Ok(0, 0)` (R95). -/
def Ending.noData (e : Ending Unit) : Ending (Word × Word) :=
  e.andThen fun _ s => .ok (0, 0) s

/-- `READ v` (R120). -/
def execRead (verbose : Bool) (s : State) : Host.Outcome State Fault Refusal :=
  .next (standalone (readProc verbose) s)

/-- `READ_IDR` (R121): `d0` the value read, `d1 = 0`. -/
def execReadIdr (s : State) : Host.Outcome State Fault Refusal :=
  .next (standalone (fun s => (readIdrProc s).andThen fun r s => .ok (r, 0) s) s)

/-- `WRITE_CONTROL_BIT_SET mask` (R125). -/
def execWriteControlBitSet (mask : Word) (s : State) : Host.Outcome State Fault Refusal :=
  .next (standalone (fun s => (writeControlBitSetProc mask s).noData) s)

/-- `WRITE_CONTROL_BIT_CLEAR mask` (R126). -/
def execWriteControlBitClear (mask : Word) (s : State) : Host.Outcome State Fault Refusal :=
  .next (standalone (fun s => (writeControlBitClearProc mask s).noData) s)

/-- `WRITE_CONTROL_RAW value` (R124). -/
def execWriteControlRaw (value : Word) (s : State) : Host.Outcome State Fault Refusal :=
  .next (standalone (fun s => (writeControlRawProc value s).noData) s)

/-- `REFRESH v` (R122). -/
def execRefresh (verbose : Bool) (s : State) : Host.Outcome State Fault Refusal :=
  .next (standalone (refreshProc verbose) s)

/-- `REFRESH_AND_REPORT label` (R123). -/
def execRefreshAndReport (label : Word) (s : State) : Host.Outcome State Fault Refusal :=
  .next (standalone (refreshAndReportProc label) s)

/-- `CLEAR_RESET_REQUEST` (R127). -/
def execClearResetRequest (s : State) : Host.Outcome State Fault Refusal :=
  .next (standalone (fun s => (clearResetRequestProc s).noData) s)

end Sys2Proof.Machine
end

