-- ==== Sys2Proof/Machine/Polling.lean ====
section
/-! DEFINITION. The MDM-AP Session family, bounded polling: `WAIT_RESET_ASSERTED` and
`WAIT_FLASH_READY` (42_session_polling.md). -/

namespace Sys2Proof.Machine

/-- The awaited condition of `WAIT_RESET_ASSERTED`: the poll read Status bit 3 as 0 (R141). -/
def seesReset (polled : Option Word) : Bool :=
  polled.any fun v => !(decodeStatus v).systemReset

/-- The awaited condition of `WAIT_FLASH_READY`: the poll read Status bit 1 as 1 (R142). -/
def seesFlashReady (polled : Option Word) : Bool :=
  polled.any fun v => (decodeStatus v).flashReady

/-- The loop of `WAIT_RESET_ASSERTED` with `n` polls left (R141): a delay after each unsuccessful
poll, the last included. -/
def resetLoop : Nat → State → Ending Unit
  | 0, s => .fail .timeoutReset s
  | n + 1, s =>
    (poll s).andThen fun polled s =>
    if seesReset polled then .ok () s
    else resetLoop n (s.delay s.config.resetPollDelayMs)

/-- The body of `WAIT_RESET_ASSERTED` (R141): the write is `WRITE_CONTROL_RAW C_SYS_RESET_REQUEST`. -/
def waitResetAssertedProc (s : State) : Ending Unit :=
  (session s).andThen fun _ s =>
  (apWriteControl maskSysResetRequest s.clearPolls).andThen fun _ s =>
  resetLoop s.config.resetPollMax s

/-- `FLASH_POLL_DELAY_MS`: by default no delay event is issued (R9, R144; log 10). -/
def State.flashDelay (s : State) : State :=
  match s.config.flashPollDelayMs with
  | some ms => s.delay ms
  | none => s

/-- The loop of `WAIT_FLASH_READY` with `n` polls left: was the bit seen (R142)? -/
def flashLoop : Nat → State → Ending Bool
  | 0, s => .ok false s
  | n + 1, s =>
    (poll s).andThen fun polled s =>
    if seesFlashReady polled then .ok true s else flashLoop n s.flashDelay

/-- A refresh inside `WAIT_FLASH_READY`: not logged (R142). -/
def quietRefresh (s : State) : Ending Unit :=
  (reload s).andThen fun r s =>
  .ok () (s.loadSnapshot r.1 r.2)

/-- The body of `WAIT_FLASH_READY` (R142): refresh, polls, refresh, and the verdict of the polls. -/
def waitFlashReadyProc (s : State) : Ending Unit :=
  (session s).andThen fun _ s =>
  (quietRefresh s.clearPolls).andThen fun _ s =>
  (flashLoop s.config.flashPollMax s).andThen fun seen s =>
  (quietRefresh s).andThen fun _ s =>
  if seen then .ok () s else .fail .timeoutFlashReady s

/-- `WAIT_RESET_ASSERTED` (R141). -/
def execWaitResetAsserted (s : State) : Host.Outcome State Fault Refusal :=
  .next (standalone (fun s => (waitResetAssertedProc s).noData) s)

/-- `WAIT_FLASH_READY` (R142). -/
def execWaitFlashReady (s : State) : Host.Outcome State Fault Refusal :=
  .next (standalone (fun s => (waitFlashReadyProc s).noData) s)

end Sys2Proof.Machine
end

