-- ==== Sys2Proof/Machine/Orchestrator.lean ====
section
/-! DEFINITION. The Unlock Orchestrator: the command `UNLOCK` and its steps `S1` to `S11`
(43_orchestrator.md). -/

namespace Sys2Proof.Machine

/-- Start of `UNLOCK` (R151). -/
def unlockStart (s : State) : State :=
  { s with cause := .none, failStep := 0, pollCnt := 0, snap := none, stepReg := .s1 }

/-- The failure exit from step `S<n>` (R163, R164). -/
def failureExit (n : Fin 12) (c : Cause) (s : State) : State :=
  { ((s.log (.error c n)).failWith c n).dropSession with stepReg := .failed }

/-- The security exit from `S6` (R157, R192, R164). -/
def securedExit (s : State) : State :=
  { ((s.log .securedGuidance).failWith .targetSecured 6).dropSession with stepReg := .abortSecured }

/-- The end of `S11` (R162, R164). -/
def successExit (s : State) : State :=
  { (s.succeed 0 0 []).dropSession with stepReg := .done }

/-- `step <- S<n>` (R16). -/
def State.goTo (target : UnlockStep) (s : State) : State :=
  { s with stepReg := target }

/-- The end of step `S<n>`: on to `target`, or the failure exit (R150, R163). -/
def Ending.leaveStep (n : Fin 12) (target : UnlockStep) (e : Ending Unit) : State :=
  match e with
  | .ok _ s => s.goTo target
  | .fail c s => failureExit n c s

/-- A called command's result is not used (R153, R160). -/
def Ending.discard {α : Type} (e : Ending α) : Ending Unit :=
  e.andThen fun _ s => .ok () s

/-- `S1`: attach and hardware reset request (R152). -/
def unlockS1 (s : State) : State :=
  ((probeAttach s).andThen fun _ s => probeTargetReset s).leaveStep 1 .s2

/-- `S2`: the initial snapshot (R153). -/
def unlockS2 (s : State) : State :=
  (readProc true s).discard.leaveStep 2 .s3

/-- `S3`: assert and confirm system reset (R154). -/
def unlockS3 (s : State) : State :=
  (waitResetAssertedProc s).leaveStep 3 .s4

/-- The log of `S4`: the value, and a warning if it is not the expected one (R155). -/
def State.logIdr (r : Word) (s : State) : State :=
  if r = idrExpected then s.log (.idrValue r)
  else (s.log (.idrValue r)).log (.idrWarning r idrExpected)

/-- `S4`: identity check; a mismatch is a warning only (R155). -/
def unlockS4 (s : State) : State :=
  ((readIdrProc s).andThen fun r s => .ok () (s.logIdr r)).leaveStep 4 .s5

/-- `S5`: flash readiness (R156). -/
def unlockS5 (s : State) : State :=
  (waitFlashReadyProc s).leaveStep 5 .s6

/-- `S6`: security check on the Status value of this refresh (R157). -/
def unlockS6 (s : State) : State :=
  match refreshProc true s with
  | .ok r s => if (decodeStatus r.1).security then securedExit s else s.goTo .s7
  | .fail c s => failureExit 6 c s

/-- `S7`: debug request, reported under the label "DBG_REQ_BIT set" (R158). -/
def unlockS7 (s : State) : State :=
  ((writeControlBitSetProc maskDebugRequest s).andThen fun _ s =>
    (refreshAndReportProc reasonDbgReq s).discard).leaveStep 7 .s8

/-- The body of `S8`: the halt through DHCSR, its readback logged and not looked at (R159). -/
def haltProc (s : State) : Ending Unit :=
  (memRead s.config.dhcsrAddr s).andThen fun before s =>
  (memWrite s.config.dhcsrAddr s.config.dhcsrHaltWord s).andThen fun _ s =>
  (memFlush s).andThen fun _ s =>
  (memRead s.config.dhcsrAddr (s.delay s.config.haltSettleMs)).andThen fun after s =>
  .ok () (s.log (.dhcsr before after))

/-- `S8`: halt through DHCSR (R159). -/
def unlockS8 (s : State) : State :=
  (haltProc s).leaveStep 8 .s9

/-- `S9`: observation (R160). -/
def unlockS9 (s : State) : State :=
  (refreshProc true s).discard.leaveStep 9 .s10

/-- The body of `S10`: release reset, refresh, and a last look at DHCSR (R161). -/
def releaseProc (s : State) : Ending Unit :=
  (clearResetRequestProc s).andThen fun _ s =>
  (refreshProc true (s.delay s.config.resetReleaseMs)).andThen fun _ s =>
  (memRead s.config.dhcsrAddr s).andThen fun final s =>
  .ok () (s.log (.dhcsrFinal final))

/-- `S10`: release reset (R161). -/
def unlockS10 (s : State) : State :=
  (releaseProc s).leaveStep 10 .s11

/-- `S11`: final refresh and success (R162). -/
def unlockS11 (s : State) : State :=
  match refreshProc true s with
  | .ok _ s => successExit s
  | .fail c s => failureExit 11 c s

/-- Run the step the step register names; a resting value has none (R24, R165). -/
def unlockAdvance (s : State) : State :=
  match s.stepReg with
  | .s1 => unlockS1 s
  | .s2 => unlockS2 s
  | .s3 => unlockS3 s
  | .s4 => unlockS4 s
  | .s5 => unlockS5 s
  | .s6 => unlockS6 s
  | .s7 => unlockS7 s
  | .s8 => unlockS8 s
  | .s9 => unlockS9 s
  | .s10 => unlockS10 s
  | .s11 => unlockS11 s
  | .idle => s
  | .done => s
  | .failed => s
  | .abortSecured => s

/-- Run `n` steps of the sequence. -/
def unlockRun : Nat → State → State
  | 0, s => s
  | n + 1, s => unlockRun n (unlockAdvance s)

/-- `UNLOCK` (R150): the start, then the steps; eleven of them reach a terminal state on every path. -/
def execUnlock (s : State) : Host.Outcome State Fault Refusal :=
  .next (unlockRun 11 (unlockStart s))

end Sys2Proof.Machine
end

