-- ==== Sys2Proof/Machine/Dispatch.lean ====
section
/-! DEFINITION. One arm per command (30_encoding.md R92). -/

namespace Sys2Proof.Machine

def exec (i : Instr) (s : State) : Host.Outcome State Fault Refusal :=
  match i with
  | .decodeStatus value => Sys2Proof.Machine.execDecodeStatus value s
  | .decodeControl value => Sys2Proof.Machine.execDecodeControl value s
  | .diff => Sys2Proof.Machine.execDiff s
  | .read verbose => Sys2Proof.Machine.execRead verbose s
  | .readIdr => Sys2Proof.Machine.execReadIdr s
  | .writeControlBitSet mask => Sys2Proof.Machine.execWriteControlBitSet mask s
  | .writeControlBitClear mask => Sys2Proof.Machine.execWriteControlBitClear mask s
  | .writeControlRaw value => Sys2Proof.Machine.execWriteControlRaw value s
  | .refresh verbose => Sys2Proof.Machine.execRefresh verbose s
  | .refreshAndReport label => Sys2Proof.Machine.execRefreshAndReport label s
  | .waitResetAsserted => Sys2Proof.Machine.execWaitResetAsserted s
  | .clearResetRequest => Sys2Proof.Machine.execClearResetRequest s
  | .waitFlashReady => Sys2Proof.Machine.execWaitFlashReady s
  | .unlock => Sys2Proof.Machine.execUnlock s

end Sys2Proof.Machine
end

