-- ==== Sys2Proof/Machine/Accept.lean ====
section
/-! DEFINITION. How the block takes what the host does next: a command word with its side ports
(30_encoding.md R90, R91), a reset of the block (70_reset_and_hazards.md R210), or nothing. -/

namespace Sys2Proof.Machine

/-- The host's next input is at the ports: the side ports carry its values, and it is no longer to come. -/
def State.present (rest : List HostInput) (ports : SidePorts) (s : State) : State :=
  { s with inputs := rest, sidePorts := ports }

/-- Run a presented command word: refused if it is reserved or ill-formed (R94, R191), else executed. -/
def runWord (w : CommandWord) (s : State) : Host.Outcome State Fault Refusal :=
  match decode w with
  | .ok i => exec i s
  | .error _ => .next s.refuseBadCommand

/-- One step of the machine: the host's next input, taken whole (R27). With no input the block rests. -/
def runInput (s : State) : Host.Outcome State Fault Refusal :=
  match s.inputs with
  | [] => .next s
  | .command w ports :: rest => runWord w (s.present rest ports)
  | .reset :: rest => .next ({ s with inputs := rest } : State).blockReset

/-- The command word a fetch of the given bits would present: the bits above `nbits` are zero (log 15). -/
def fetchedWord (nbits w : Nat) : CommandWord := BitVec.ofNat 40 (w % 2 ^ nbits)

/-- The host presents a command word next, with the side ports as they are. -/
def State.presentNext (w : CommandWord) (s : State) : State :=
  { s with inputs := .command w s.sidePorts :: s.inputs }

end Sys2Proof.Machine
end

