-- ==== Sys2Proof/Machine/Step.lean ====
section
/-! DEFINITION. The step of the machine, and how a word is placed where the step takes its next command. -/

namespace Sys2Proof.Machine

/-- One step: the host's next input (R27; log 1, log 5). -/
def step (s : State) : Host.Outcome State Fault Refusal :=
  runInput s

/-- `s` with the given word presented next at the command port (log 5). -/
def State.withFetchWord (s : State) (nbits w : Nat) : State :=
  s.presentNext (fetchedWord nbits w)

end Sys2Proof.Machine
end

