-- ==== Sys2Proof/Safety.lean ====
section
/-! DEFINITION. The terms the statements use: the environment's next answers, the state after some
events, the kinds of events and how many of each, what a legal event is (20_memory.md R51 to R55, R60,
R65), the invariant of the machine, and what the host can observe (60_exceptions.md R197, R200). -/

namespace Sys2Proof.Machine

/-! ### Answers and events -/

/-- The next `n` answers of the environment, from a script and the number of transactions answered. -/
def repliesFrom : Nat → List Reply → Nat → List Reply
  | 0, _, _ => []
  | n + 1, r :: rest, k => r :: repliesFrom n rest (k + 1)
  | n + 1, [], k => Config.freeReply k :: repliesFrom n [] (k + 1)

/-- The environment's answers to the next `n` transactions, whatever they will be (R56). -/
def State.upcoming (s : State) (n : Nat) : List Reply := repliesFrom n s.script s.asked

/-- `s` after `n` answered transactions and the events `evs`, nothing else changed. -/
def State.after (s : State) (n : Nat) (evs : List Event) : State :=
  { s with script := s.script.drop n, asked := s.asked + n, trace := s.trace ++ evs }

/-- The events that are transactions: those the environment answers (R50, R60, R61). -/
def Event.isTransaction : Event → Bool
  | .delay _ => false
  | .log _ => false
  | _ => true

/-- Was the event answered `Err`? -/
def Event.isErr : Event → Bool
  | .apRead _ _ answer => answer.isNone
  | .apWrite _ _ _ ok => !ok
  | .memRead _ answer => answer.isNone
  | .memWrite _ _ ok => !ok
  | .memFlush ok => !ok
  | .probeAttach ok => !ok
  | .probeTargetReset ok => !ok
  | .delay _ => false
  | .log _ => false

def Event.isApRead : Event → Bool
  | .apRead _ _ _ => true
  | _ => false

/-- A read of the Status register: a poll, or the first read of a refresh. -/
def Event.isStatusRead : Event → Bool
  | .apRead ap off _ => ap == apMdm && off == offStatus
  | _ => false

def Event.isApWrite : Event → Bool
  | .apWrite _ _ _ _ => true
  | _ => false

def Event.isMemRead : Event → Bool
  | .memRead _ _ => true
  | _ => false

def Event.isMemWrite : Event → Bool
  | .memWrite _ _ _ => true
  | _ => false

def Event.isMemFlush : Event → Bool
  | .memFlush _ => true
  | _ => false

/-- A probe-control event (R59). -/
def Event.isProbe : Event → Bool
  | .probeAttach _ => true
  | .probeTargetReset _ => true
  | _ => false

def Event.isDelay : Event → Bool
  | .delay _ => true
  | _ => false

/-- The milliseconds of a delay; no other event lets time pass (R60). -/
def Event.delayMs : Event → Nat
  | .delay ms => ms
  | _ => 0

/-- The time the delays of some events add up to (R231). -/
def delayTotal (evs : List Event) : Nat := (evs.map Event.delayMs).sum

/-! ### What the block may issue -/

/-- An event the block may issue under a configuration: the address map of R65, the one word ever
written to memory (R54), and the delays of R9 and R60. -/
def Event.legal (c : Config) : Event → Bool
  | .apRead ap off _ => ap == apMdm && (off == offStatus || off == offControl || off == offIdr)
  | .apWrite ap off _ _ => ap == apMdm && off == offControl
  | .memRead addr _ => addr == c.dhcsrAddr
  | .memWrite addr value _ => addr == c.dhcsrAddr && value == c.dhcsrHaltWord
  | .memFlush _ => true
  | .probeAttach _ => true
  | .probeTargetReset _ => true
  | .delay ms => ms == c.resetPollDelayMs || ms == c.haltSettleMs || ms == c.resetReleaseMs ||
      some ms == c.flashPollDelayMs
  | .log _ => true

/-- The values of the step register while no command runs (R24, R27, R164). -/
def UnlockStep.resting : UnlockStep → Bool
  | .idle => true
  | .done => true
  | .failed => true
  | .abortSecured => true
  | _ => false

/-- The causes the block raises: not the two reserved ones (R7, R181). -/
def Cause.raised : Cause → Bool
  | .probeNotFound => false
  | .probeOpenFailure => false
  | _ => true

/-- The result port agrees with the registers it copies, and carries no data on a failure (R95). -/
def State.resultAgrees (s : State) : Prop :=
  match s.result with
  | none => s.cause = .none ∧ s.failStep = 0
  | some r => r.cause = s.cause ∧ r.failStep = s.failStep ∧ (r.ok = true ↔ s.cause = .none) ∧
      (r.ok = true → s.failStep = 0) ∧ (r.ok = false → r.d0 = 0 ∧ r.d1 = 0 ∧ r.entries = [])

/-- The invariant of the machine between commands: every event issued is legal (R65), no step of
`UNLOCK` is running (R27, R164), the poll counter is within the budgets (R25), no reserved cause is
raised (R181), the result port agrees with the registers (R95), and a step is named as failed only
where `UNLOCK` ended with a failure or the secured abort (R26, R163, R192). -/
structure State.Inv (s : State) : Prop where
  traceLegal : ∀ e ∈ s.trace, e.legal s.config = true
  resting : s.stepReg.resting = true
  pollBounded : s.pollCnt ≤ max s.config.resetPollMax s.config.flashPollMax
  causeRaised : s.cause.raised = true
  resultAgrees : s.resultAgrees
  failStepNamed : s.failStep ≠ 0 → s.stepReg = .failed ∨ s.stepReg = .abortSecured

/-! ### How a command leaves the state, and the words of a whole `UNLOCK` -/

/-- `s` as a command issued on its own leaves it on success: `cause` and `fail_step` 0, and the result
`(d0, d1)` (R95, R180). -/
def State.succeeded (s : State) (d0 d1 : Word) : State :=
  { s with cause := .none, failStep := 0, result := some ⟨true, .none, 0, d0, d1, []⟩ }

/-- `s` as a failure or a refusal with cause `c` in step `n` leaves it: the cause and the step recorded,
a result with `ok = 0` and no data (R95, R185). -/
def State.failedIn (s : State) (c : Cause) (n : Fin 12) : State :=
  { s with cause := c, failStep := n, result := some ⟨false, c, n, 0, 0, []⟩ }

/-- The events of one refresh or initial read: Status, then Control (R119). -/
def reloadEvents (st ct : Word) : List Event :=
  [.apRead 1 0x00 (some st), .apRead 1 0x04 (some ct)]

/-- The events of unsuccessful polls, each a read of Status followed by a delay (R141). -/
def delayedPolls (ms : Nat) (vs : List Word) : List Event :=
  vs.flatMap fun v => [.apRead 1 0x00 (some v), .delay ms]

/-- The events of polls with no delay (R142). -/
def plainPolls (vs : List Word) : List Event :=
  vs.map fun v => .apRead 1 0x00 (some v)

/-- The words an environment that answers every transaction of `UNLOCK` with `Ok` gives, step by step:
what each read returns, in order. `resetPolls` and `flashPolls` are the polls before the one that sees
the awaited bit. The fields named `ack…` stand for the word an `Ok` to a write, a flush or a probe event
carries, which nobody reads. -/
structure UnlockAnswers where
  ackAttach : Word
  ackReset : Word
  status2 : Word
  control2 : Word
  ackWrite3 : Word
  resetPolls : List Word
  resetSeen : Word
  idr : Word
  statusOpen : Word
  controlOpen : Word
  flashPolls : List Word
  flashSeen : Word
  statusClose : Word
  controlClose : Word
  status6 : Word
  control6 : Word
  ackWrite7 : Word
  status7 : Word
  control7 : Word
  dhcsrBefore : Word
  ackWrite8 : Word
  ackFlush : Word
  dhcsrAfter : Word
  status9 : Word
  control9 : Word
  ackWrite10 : Word
  status10 : Word
  control10 : Word
  dhcsrFinal : Word
  status11 : Word
  control11 : Word
  deriving DecidableEq, Repr

/-- Both waits end within their budgets: bit 3 is 1 until it is seen 0, bit 1 is 0 until it is seen 1
(R141, R142). -/
def UnlockAnswers.waitsEnd (a : UnlockAnswers) (c : Config) : Prop :=
  a.resetPolls.length < c.resetPollMax ∧ (∀ v ∈ a.resetPolls, v.getLsbD 3 = true) ∧
  a.resetSeen.getLsbD 3 = false ∧
  a.flashPolls.length < c.flashPollMax ∧ (∀ v ∈ a.flashPolls, v.getLsbD 1 = false) ∧
  a.flashSeen.getLsbD 1 = true

/-- The answers up to the refresh of `S6`. -/
def UnlockAnswers.repliesToS6 (a : UnlockAnswers) : List Reply :=
  ([a.ackAttach, a.ackReset, a.status2, a.control2, a.ackWrite3] ++ a.resetPolls ++
    [a.resetSeen, a.idr, a.statusOpen, a.controlOpen] ++ a.flashPolls ++
    [a.flashSeen, a.statusClose, a.controlClose, a.status6, a.control6]).map .ok

/-- The answers from `S7` on. -/
def UnlockAnswers.repliesFromS7 (a : UnlockAnswers) : List Reply :=
  [a.ackWrite7, a.status7, a.control7, a.dhcsrBefore, a.ackWrite8, a.ackFlush, a.dhcsrAfter,
    a.status9, a.control9, a.ackWrite10, a.status10, a.control10, a.dhcsrFinal,
    a.status11, a.control11].map .ok

/-- The events of `S1` to the refresh of `S6` (R152 to R157). -/
def UnlockAnswers.eventsToS6 (a : UnlockAnswers) (c : Config) : List Event :=
  [.probeAttach true, .probeTargetReset true] ++
  reloadEvents a.status2 a.control2 ++ [.log (.snapshot a.status2 a.control2)] ++
  [.apWrite 1 0x04 0x00000008#32 true] ++ delayedPolls c.resetPollDelayMs a.resetPolls ++
  [.apRead 1 0x00 (some a.resetSeen)] ++
  [.apRead 1 0xFC (some a.idr), .log (.idrValue a.idr)] ++
  (if a.idr = 0x001C0020#32 then [] else [.log (.idrWarning a.idr 0x001C0020#32)]) ++
  reloadEvents a.statusOpen a.controlOpen ++ plainPolls a.flashPolls ++
  [.apRead 1 0x00 (some a.flashSeen)] ++ reloadEvents a.statusClose a.controlClose ++
  reloadEvents a.status6 a.control6 ++ [.log (.snapshot a.status6 a.control6)]

/-- The events of `S7` to `S11` (R158 to R162). -/
def UnlockAnswers.eventsFromS7 (a : UnlockAnswers) (c : Config) : List Event :=
  [.apWrite 1 0x04 (a.control6 ||| 0x00000004#32) true] ++ reloadEvents a.status7 a.control7 ++
  [.log (.reason 0x00000001#32),
    .log (.diff (diffEntries ⟨a.status6, a.control6⟩ ⟨a.status7, a.control7⟩))] ++
  [.memRead c.dhcsrAddr (some a.dhcsrBefore), .memWrite c.dhcsrAddr c.dhcsrHaltWord true,
    .memFlush true, .delay c.haltSettleMs, .memRead c.dhcsrAddr (some a.dhcsrAfter),
    .log (.dhcsr a.dhcsrBefore a.dhcsrAfter)] ++
  reloadEvents a.status9 a.control9 ++ [.log (.snapshot a.status9 a.control9)] ++
  [.apWrite 1 0x04 (a.control9 &&& 0xFFFFFFF7#32) true, .delay c.resetReleaseMs] ++
  reloadEvents a.status10 a.control10 ++ [.log (.snapshot a.status10 a.control10)] ++
  [.memRead c.dhcsrAddr (some a.dhcsrFinal), .log (.dhcsrFinal a.dhcsrFinal)] ++
  reloadEvents a.status11 a.control11 ++ [.log (.snapshot a.status11 a.control11)]

/-- The causes a failure in step `S<n>` can have (R152 to R162, "Raises"). -/
def stepCauses (n : Fin 12) : List Cause :=
  match n.val with
  | 1 => [.attachInitFailure]
  | 2 => [.regReadFailure]
  | 3 => [.regWriteFailure, .regReadFailure, .timeoutReset]
  | 4 => [.regReadFailure]
  | 5 => [.regReadFailure, .timeoutFlashReady]
  | 6 => [.regReadFailure]
  | 7 => [.regWriteFailure, .regReadFailure]
  | 8 => [.stepTransportFailure]
  | 9 => [.regReadFailure]
  | 10 => [.regWriteFailure, .regReadFailure, .stepTransportFailure]
  | 11 => [.regReadFailure]
  | _ => []

/-- The causes that say a transaction was answered `Err` (R183, R184, R186, R187). -/
def Cause.isTransport : Cause → Bool
  | .attachInitFailure => true
  | .regReadFailure => true
  | .regWriteFailure => true
  | .stepTransportFailure => true
  | _ => false

/-! ### Command words by their numbers -/

/-- R94 (a) to (d), said of the number a command word is: `op` is its quotient by 2^36, `v` bit 35,
`zeros` bits 34:32, `arg` its remainder by 2^32 (R90). -/
def illFormedWord (w : CommandWord) : Prop :=
  let op := w.toNat / 2 ^ 36
  let v := w.toNat / 2 ^ 35 % 2
  let zeros := w.toNat / 2 ^ 32 % 8
  let arg := w.toNat % 2 ^ 32
  op = 14 ∨ op = 15 ∨ zeros ≠ 0 ∨ (v = 1 ∧ op ≠ 3 ∧ op ≠ 8) ∨
    (arg ≠ 0 ∧ op ≠ 0 ∧ op ≠ 1 ∧ op ≠ 5 ∧ op ≠ 6 ∧ op ≠ 7 ∧ op ≠ 9)

/-- The four write commands (R22). -/
def isWriteCommand : Instr → Bool
  | .writeControlBitSet _ => true
  | .writeControlBitClear _ => true
  | .writeControlRaw _ => true
  | .clearResetRequest => true
  | _ => false

/-- The commands marked "needs SNAP.valid: yes" (R92). -/
def needsSnapshot : Instr → Bool
  | .writeControlBitSet _ => true
  | .writeControlBitClear _ => true
  | .writeControlRaw _ => true
  | .refresh _ => true
  | .refreshAndReport _ => true
  | .waitResetAsserted => true
  | .clearResetRequest => true
  | .waitFlashReady => true
  | _ => false

/-! ### What the host can observe -/

/-- What the host can observe of the block (R200). -/
structure Observation where
  result : Option Result
  stepReg : UnlockStep
  cause : Cause
  failStep : Fin 12
  pollCnt : Nat
  statusView : Option StatusView
  controlView : Option ControlView
  trace : List Event
  deriving DecidableEq, Repr

/-- The observation a state gives (R200, R28). -/
def State.observe (s : State) : Observation where
  result := s.result
  stepReg := s.stepReg
  cause := s.cause
  failStep := s.failStep
  pollCnt := s.pollCnt
  statusView := s.statusView
  controlView := s.controlView
  trace := s.trace

/-- How the surrounding program ends (R197, informative). -/
inductive ProcessEnd where
  | normal
  | loggedError
  | abnormal
  deriving DecidableEq, Repr

/-- The process ending a terminal state of `UNLOCK` maps to; none while it has not ended (R197). -/
def State.processEnd (s : State) : Option ProcessEnd :=
  match s.stepReg with
  | .done => some .normal
  | .failed => some .loggedError
  | .abortSecured => some .abnormal
  | _ => none

end Sys2Proof.Machine
end

