-- ==== Sys2Proof/Certificates/Slice0/Obligations.lean ====
section
/-! DEFINITION. The statements about the model, each from the numbered rules of spec/. -/

open Sys2Proof Sys2Proof.Machine

/-! ### Encoding -/

/-- R92 to R94: decoding the word of a command gives the command, for every command and operand. -/
def Obligations.DecodeOfEncode : Prop :=
  ∀ i : Instr, decode (encode i) = .ok i

/-- R90, R94: a word the decoder accepts is the word of the command it stands for, so no two words
stand for one command. -/
def Obligations.EncodeOfDecode : Prop :=
  ∀ (w : CommandWord) (i : Instr), decode w = .ok i → encode i = w

/-- R94: the decoder refuses exactly the reserved and ill-formed words. -/
def Obligations.DecodeRefusesIllFormed : Prop :=
  ∀ w : CommandWord, (∃ d, decode w = .error d) ↔ illFormedWord w

/-- R92: words written out from the opcode map (95_test_vectors.md, "Command words used below"). -/
def Obligations.TableWordsDecode : Prop :=
  decode 0x0000000002#40 = .ok (.decodeStatus 0x2#32) ∧
  decode 0x3800000000#40 = .ok (.read true) ∧
  decode 0x5000000004#40 = .ok (.writeControlBitSet 0x4#32) ∧
  decode 0xA000000000#40 = .ok .waitResetAsserted ∧
  decode 0xD000000000#40 = .ok .unlock

/-! ### Reset and the step -/

/-- R40: the reset state of the block. -/
def Obligations.ResetState : Prop :=
  State.reset.snap = none ∧ State.reset.stepReg = .idle ∧ State.reset.pollCnt = 0 ∧
  causeCode State.reset.cause = 0 ∧ State.reset.failStep = 0

/-- R210, R165: a reset of the block puts every register in the state of R40 from whatever it held, and
issues no transaction and no log item. The model's choices beside the rules: a reset is a host input
between commands, and it leaves the posted writes, the side ports, the answers and the configuration as
they were (log 20); it drops the result of the last command (log 13, log 20). -/
def Obligations.BlockResetTouchesNothingElse : Prop :=
  ∀ (s : State) (rest : List HostInput), s.inputs = .reset :: rest →
    ∃ t, step s = .next t ∧ t.snap = none ∧ t.stepReg = .idle ∧ t.pollCnt = 0 ∧ t.cause = .none ∧
      t.failStep = 0 ∧ t.trace = s.trace ∧ t.asked = s.asked ∧ t.script = s.script ∧
      t.posted = s.posted ∧ t.config = s.config ∧ t.inputs = rest ∧ t.sidePorts = s.sidePorts ∧
      t.result = none

/-- R90, R91: the step runs the command a presented word decodes to, with the side ports sampled with
it and the word no longer to come. -/
def Obligations.StepRunsDecodedCommand : Prop :=
  ∀ (s : State) (w : CommandWord) (ports : SidePorts) (rest : List HostInput) (i : Instr),
    s.inputs = .command w ports :: rest → decode w = .ok i →
    step s = exec i { s with inputs := rest, sidePorts := ports }

/-- Log 5 (the model's choice): with nothing presented the block rests. -/
def Obligations.StepRestsWithoutInput : Prop :=
  ∀ s : State, s.inputs = [] → step s = .next s

/-- R94, R191: a reserved or ill-formed word issues nothing and changes `cause` and `fail_step` alone;
the result says `BAD_COMMAND`. (That the word and the ports are taken from the inputs is log 5's.) -/
def Obligations.IllFormedWordRefused : Prop :=
  ∀ (s : State) (w : CommandWord) (ports : SidePorts) (rest : List HostInput),
    s.inputs = .command w ports :: rest → illFormedWord w →
    step s = .next ({ s with inputs := rest, sidePorts := ports }.failedIn .badCommand 0)

/-- R180, R95: a presented command ends in exactly one of three ways, and the result copies `cause` and
`fail_step`. -/
def Obligations.CommandEndsInOneOfThreeWays : Prop :=
  ∀ (s : State) (w : CommandWord) (ports : SidePorts) (rest : List HostInput),
    s.inputs = .command w ports :: rest →
    ∃ t r, step s = .next t ∧ t.result = some r ∧ r.cause = t.cause ∧ r.failStep = t.failStep ∧
      ((r.ok = true ∧ t.cause = .none ∧ t.failStep = 0) ∨
       (r.ok = false ∧ r.d0 = 0 ∧ r.d1 = 0 ∧ 3 ≤ (causeCode t.cause).toNat ∧ (causeCode t.cause).toNat ≤ 9) ∨
       (r.ok = false ∧ r.d0 = 0 ∧ r.d1 = 0 ∧ 10 ≤ (causeCode t.cause).toNat ∧
        (causeCode t.cause).toNat ≤ 11 ∧ t.trace = s.trace ∧ t.snap = s.snap ∧ t.stepReg = s.stepReg))

/-! ### Register Codec -/

/-- R110, R81: `DECODE_STATUS` returns the raw value and the seven flags packed, and touches nothing
but `cause`, `fail_step` and the result port. -/
def Obligations.DecodeStatusCommand : Prop :=
  ∀ (s : State) (value : Word), ∃ d1 : Word,
    exec (.decodeStatus value) s = .next (s.succeeded value d1) ∧
    ∀ k, d1.getLsbD k = (if k < 4 then value.getLsbD k else if k < 7 then value.getLsbD (k + 12) else false)

/-- R111, R83: `DECODE_CONTROL` likewise, with the five flags. -/
def Obligations.DecodeControlCommand : Prop :=
  ∀ (s : State) (value : Word), ∃ d1 : Word,
    exec (.decodeControl value) s = .next (s.succeeded value d1) ∧
    ∀ k, d1.getLsbD k = (if k < 5 then value.getLsbD k else false)

/-- R113 (b), (c), (d), (f): the bit law, the round trip of an OR-ed mask, the mask law, and the raw
value of a view. -/
def Obligations.CodecLaws : Prop :=
  (∀ v : Word, decodeStatus v =
    ⟨v.getLsbD 0, v.getLsbD 1, v.getLsbD 2, v.getLsbD 3, v.getLsbD 16, v.getLsbD 17, v.getLsbD 18, v⟩) ∧
  (∀ v : Word, decodeControl v = ⟨v.getLsbD 0, v.getLsbD 1, v.getLsbD 2, v.getLsbD 3, v.getLsbD 4, v⟩) ∧
  (∀ base mask : Word, decodeControl (base ||| mask) =
    ⟨base.getLsbD 0 || mask.getLsbD 0, base.getLsbD 1 || mask.getLsbD 1, base.getLsbD 2 || mask.getLsbD 2,
     base.getLsbD 3 || mask.getLsbD 3, base.getLsbD 4 || mask.getLsbD 4, base ||| mask⟩) ∧
  (∀ v : Word, { decodeStatus (v &&& 0x0007000F#32) with value := v } = decodeStatus v) ∧
  (∀ v : Word, { decodeControl (v &&& 0x0000001F#32) with value := v } = decodeControl v)

/-- R28, R80, R82: the decoded flags at every moment are the bits of the snapshot registers, and there are
none while there is no snapshot. -/
def Obligations.ViewsFollowSnapshot : Prop :=
  ∀ (s : State) (st ct : Word),
    (s.snap = some ⟨st, ct⟩ →
      s.statusView = some ⟨st.getLsbD 0, st.getLsbD 1, st.getLsbD 2, st.getLsbD 3, st.getLsbD 16,
        st.getLsbD 17, st.getLsbD 18, st⟩ ∧
      s.controlView = some ⟨ct.getLsbD 0, ct.getLsbD 1, ct.getLsbD 2, ct.getLsbD 3, ct.getLsbD 4, ct⟩) ∧
    (s.snap = none → s.statusView = none ∧ s.controlView = none)

/-- R112: `DIFF` compares the snapshots on the side ports field by field: bit `id` of `d0` is 1 exactly
when field `id` differs, `d1` is 0, and the entries are those of the differing fields in the listed
order with their old and new values. Nothing but `cause`, `fail_step` and the result port changes. -/
def Obligations.DiffCommand : Prop :=
  ∀ s : State, ∃ (chg : BitVec 14) (es : List DiffEntry),
    let old : Snapshot := ⟨s.sidePorts.oldStatus, s.sidePorts.oldControl⟩
    let new : Snapshot := ⟨s.sidePorts.newStatus, s.sidePorts.newControl⟩
    exec .diff s = .next { s with
      cause := .none, failStep := 0, result := some ⟨true, .none, 0, chg.setWidth 32, 0, es⟩ } ∧
    (∀ f, chg.getLsbD (fieldIndex f) = decide (fieldValue old f ≠ fieldValue new f)) ∧
    es.map DiffEntry.field = allFields.filter (fun f => decide (fieldValue old f ≠ fieldValue new f)) ∧
    (∀ e ∈ es, e.old = fieldValue old e.field ∧ e.new = fieldValue new e.field)

/-- R113 (e): the diff of a snapshot with itself is empty; swapping the snapshots keeps the fields and
swaps old and new. -/
def Obligations.DiffLaws : Prop :=
  (∀ a : Snapshot, diffEntries a a = [] ∧ changeMask a a = 0) ∧
  (∀ a b : Snapshot, diffEntries b a = (diffEntries a b).map (fun e => ⟨e.field, e.new, e.old⟩) ∧
    changeMask b a = changeMask a b)

/-- R112, corner cases: whenever a flag entry of a register is present, its `value` entry is present too. -/
def Obligations.FlagChangeShowsInValue : Prop :=
  ∀ (a b : Snapshot), ∀ e ∈ diffEntries a b,
    (fieldIndex e.field < 7 → ⟨.statusValue, a.status, b.status⟩ ∈ diffEntries a b) ∧
    (8 ≤ fieldIndex e.field → ⟨.controlValue, a.control, b.control⟩ ∈ diffEntries a b)

/-! ### Session: reads -/

/-- R120: `READ`, with the two reads answered, with the Status read failing, and with the Control read
failing. -/
def Obligations.ReadCommand : Prop :=
  ∀ (s : State) (v : Bool) (st ct : Word),
    (s.upcoming 2 = [Reply.ok st, Reply.ok ct] →
      exec (.read v) s = .next ({ s.after 2 (reloadEvents st ct ++
        (if v then [Event.log (.snapshot st ct)] else [])) with snap := some ⟨st, ct⟩ }.succeeded st ct)) ∧
    (s.upcoming 1 = [Reply.err] →
      exec (.read v) s = .next ((s.after 1 [Event.apRead 1 0x00 none]).failedIn .regReadFailure 0)) ∧
    (s.upcoming 2 = [Reply.ok st, Reply.err] →
      exec (.read v) s =
        .next ((s.after 2 [Event.apRead 1 0x00 (some st), Event.apRead 1 0x04 none]).failedIn .regReadFailure 0))

/-- R121: `READ_IDR`, answered and failing; the snapshot is untouched. -/
def Obligations.ReadIdrCommand : Prop :=
  ∀ (s : State) (r : Word),
    (s.upcoming 1 = [Reply.ok r] →
      exec .readIdr s = .next ((s.after 1 [Event.apRead 1 0xFC (some r)]).succeeded r 0)) ∧
    (s.upcoming 1 = [Reply.err] →
      exec .readIdr s = .next ((s.after 1 [Event.apRead 1 0xFC none]).failedIn .regReadFailure 0))

/-- R122: `REFRESH`, answered, with either read failing, and with no session. -/
def Obligations.RefreshCommand : Prop :=
  ∀ (s : State) (v : Bool) (sn : Snapshot) (st ct : Word),
    (s.snap = some sn → s.upcoming 2 = [Reply.ok st, Reply.ok ct] →
      exec (.refresh v) s = .next ({ s.after 2 (reloadEvents st ct ++
        (if v then [Event.log (.snapshot st ct)] else [])) with snap := some ⟨st, ct⟩ }.succeeded st ct)) ∧
    (s.snap = some sn → s.upcoming 1 = [Reply.err] →
      exec (.refresh v) s = .next ((s.after 1 [Event.apRead 1 0x00 none]).failedIn .regReadFailure 0)) ∧
    (s.snap = some sn → s.upcoming 2 = [Reply.ok st, Reply.err] →
      exec (.refresh v) s =
        .next ((s.after 2 [Event.apRead 1 0x00 (some st), Event.apRead 1 0x04 none]).failedIn .regReadFailure 0)) ∧
    (s.snap = none → exec (.refresh v) s = .next (s.failedIn .noSession 0))

/-- R123: `REFRESH_AND_REPORT` logs the label and the diff against the pre-call snapshot after the
re-read, then replaces the snapshot; on a failed read nothing is logged and the snapshot stays. -/
def Obligations.RefreshAndReportCommand : Prop :=
  ∀ (s : State) (label : Word) (sn : Snapshot) (st ct : Word),
    (s.snap = some sn → s.upcoming 2 = [Reply.ok st, Reply.ok ct] →
      exec (.refreshAndReport label) s = .next ({ s.after 2 (reloadEvents st ct ++
        [Event.log (.reason label), Event.log (.diff (diffEntries sn ⟨st, ct⟩))]) with
          snap := some ⟨st, ct⟩ }.succeeded st ct)) ∧
    (s.snap = some sn → s.upcoming 1 = [Reply.err] →
      exec (.refreshAndReport label) s =
        .next ((s.after 1 [Event.apRead 1 0x00 none]).failedIn .regReadFailure 0)) ∧
    (s.snap = some sn → s.upcoming 2 = [Reply.ok st, Reply.err] →
      exec (.refreshAndReport label) s =
        .next ((s.after 2 [Event.apRead 1 0x00 (some st), Event.apRead 1 0x04 none]).failedIn .regReadFailure 0)) ∧
    (s.snap = none → exec (.refreshAndReport label) s = .next (s.failedIn .noSession 0))

/-! ### Session: writes -/

/-- R124: `WRITE_CONTROL_RAW` writes its operand, whatever the snapshot holds, and updates nothing. -/
def Obligations.WriteControlRawCommand : Prop :=
  ∀ (s : State) (value x : Word) (sn : Snapshot),
    (s.snap = some sn → s.upcoming 1 = [Reply.ok x] →
      exec (.writeControlRaw value) s = .next ((s.after 1 [Event.apWrite 1 0x04 value true]).succeeded 0 0)) ∧
    (s.snap = some sn → s.upcoming 1 = [Reply.err] →
      exec (.writeControlRaw value) s =
        .next ((s.after 1 [Event.apWrite 1 0x04 value false]).failedIn .regWriteFailure 0)) ∧
    (s.snap = none → exec (.writeControlRaw value) s = .next (s.failedIn .noSession 0))

/-- R125: `WRITE_CONTROL_BIT_SET` writes the cached Control value OR the mask; `SNAP` stays. -/
def Obligations.WriteControlBitSetCommand : Prop :=
  ∀ (s : State) (mask x : Word) (sn : Snapshot),
    (s.snap = some sn → s.upcoming 1 = [Reply.ok x] →
      exec (.writeControlBitSet mask) s =
        .next ((s.after 1 [Event.apWrite 1 0x04 (sn.control ||| mask) true]).succeeded 0 0)) ∧
    (s.snap = some sn → s.upcoming 1 = [Reply.err] →
      exec (.writeControlBitSet mask) s =
        .next ((s.after 1 [Event.apWrite 1 0x04 (sn.control ||| mask) false]).failedIn .regWriteFailure 0)) ∧
    (s.snap = none → exec (.writeControlBitSet mask) s = .next (s.failedIn .noSession 0))

/-- R126: `WRITE_CONTROL_BIT_CLEAR` writes the cached Control value AND the complement of the mask. -/
def Obligations.WriteControlBitClearCommand : Prop :=
  ∀ (s : State) (mask x : Word) (sn : Snapshot),
    (s.snap = some sn → s.upcoming 1 = [Reply.ok x] →
      exec (.writeControlBitClear mask) s =
        .next ((s.after 1 [Event.apWrite 1 0x04 (sn.control &&& ~~~mask) true]).succeeded 0 0)) ∧
    (s.snap = some sn → s.upcoming 1 = [Reply.err] →
      exec (.writeControlBitClear mask) s =
        .next ((s.after 1 [Event.apWrite 1 0x04 (sn.control &&& ~~~mask) false]).failedIn .regWriteFailure 0)) ∧
    (s.snap = none → exec (.writeControlBitClear mask) s = .next (s.failedIn .noSession 0))

/-- R127: `CLEAR_RESET_REQUEST` writes the cached Control value with bit 3 clear, and is exactly
`WRITE_CONTROL_BIT_CLEAR 0x00000008`. -/
def Obligations.ClearResetRequestCommand : Prop :=
  ∀ (s : State) (x : Word) (sn : Snapshot),
    (s.snap = some sn → s.upcoming 1 = [Reply.ok x] →
      exec .clearResetRequest s =
        .next ((s.after 1 [Event.apWrite 1 0x04 (sn.control &&& 0xFFFFFFF7#32) true]).succeeded 0 0)) ∧
    (s.snap = some sn → s.upcoming 1 = [Reply.err] →
      exec .clearResetRequest s =
        .next ((s.after 1 [Event.apWrite 1 0x04 (sn.control &&& 0xFFFFFFF7#32) false]).failedIn
          .regWriteFailure 0)) ∧
    (s.snap = none → exec .clearResetRequest s = .next (s.failedIn .noSession 0)) ∧
    exec .clearResetRequest s = exec (.writeControlBitClear 0x00000008#32) s

/-- R190: every command marked "needs SNAP.valid", with `SNAP.valid = 0`, is refused with `NO_SESSION`:
no event, no state change but `cause` and `fail_step`, and a result with `ok = 0`. -/
def Obligations.NoSessionRefusal : Prop :=
  ∀ (s : State) (i : Instr), needsSnapshot i = true → s.snap = none →
    exec i s = .next (s.failedIn .noSession 0)

/-- R128: with no refresh between them and baseline `b`, the set writes `b | m` and the clear writes
`b & ~m`; the second written value is `b` exactly when the mask's bits were clear in `b`. -/
def Obligations.SetThenClear : Prop :=
  ∀ (s : State) (m st b x y : Word), s.snap = some ⟨st, b⟩ → s.upcoming 2 = [Reply.ok x, Reply.ok y] →
    ∃ t u, exec (.writeControlBitSet m) s = .next t ∧ exec (.writeControlBitClear m) t = .next u ∧
      u.trace = s.trace ++ [Event.apWrite 1 0x04 (b ||| m) true, Event.apWrite 1 0x04 (b &&& ~~~m) true] ∧
      (b ||| m) &&& ~~~m = b &&& ~~~m ∧ (b &&& ~~~m = b ↔ b &&& m = 0)

/-- R222 (b): of two bit-sets in a row with no refresh between them, the second write starts from the
same baseline, so it drops the first one's bits. -/
def Obligations.LostUpdate : Prop :=
  ∀ (s : State) (m n st b x y : Word), s.snap = some ⟨st, b⟩ → s.upcoming 2 = [Reply.ok x, Reply.ok y] →
    ∃ t u, exec (.writeControlBitSet m) s = .next t ∧ exec (.writeControlBitSet n) t = .next u ∧
      u.trace = s.trace ++ [Event.apWrite 1 0x04 (b ||| m) true, Event.apWrite 1 0x04 (b ||| n) true] ∧
      u.snap = s.snap

/-- R22, R220, R42: a write command, whatever the answer, leaves the snapshot and so the decoded flags;
so do the commands that read no snapshot register of the target. -/
def Obligations.SnapshotKept : Prop :=
  ∀ (s t : State) (i : Instr),
    (isWriteCommand i = true ∨ i = .readIdr ∨ i = .diff ∨ (∃ v, i = .decodeStatus v) ∨
      (∃ v, i = .decodeControl v)) →
    exec i s = .next t →
    t.snap = s.snap ∧ t.statusView = s.statusView ∧ t.controlView = s.controlView

/-! ### Session: bounded polling -/

/-- R140: one poll is one read of Status; answered `Ok` it is counted and loads the Status half of the
snapshot alone; answered `Err` it ends the command with nothing counted or loaded. Under the other value
of `POLL_READ_ERR_POLICY` (log 9, the model's choice of details) it is counted and loads nothing. -/
def Obligations.PollLaw : Prop :=
  ∀ (s : State) (v : Word),
    (s.upcoming 1 = [Reply.ok v] → poll s = .ok (some v) { s.after 1 [Event.apRead 1 0x00 (some v)] with
      snap := s.snap.map fun sn => ⟨v, sn.control⟩, pollCnt := s.pollCnt + 1 }) ∧
    (s.config.pollReadErrPolicy = .abort → s.upcoming 1 = [Reply.err] →
      poll s = .fail .regReadFailure (s.after 1 [Event.apRead 1 0x00 none])) ∧
    (s.config.pollReadErrPolicy = .countAsAttempt → s.upcoming 1 = [Reply.err] →
      poll s = .ok none { s.after 1 [Event.apRead 1 0x00 none] with pollCnt := s.pollCnt + 1 })

/-- R141, R188: `WAIT_RESET_ASSERTED`. `vs` are the polls that read bit 3 as 1. It succeeds at the first
poll that reads bit 3 as 0; it times out after the whole budget; it fails at once if the write fails or
a poll read fails; with no session it is refused. -/
def Obligations.WaitResetAssertedCommand : Prop :=
  ∀ (s : State) (sn : Snapshot) (x w : Word) (vs : List Word),
    (∀ v ∈ vs, v.getLsbD 3 = true) →
    (s.snap = some sn → vs.length < s.config.resetPollMax → w.getLsbD 3 = false →
      s.upcoming (1 + vs.length + 1) = Reply.ok x :: (vs.map Reply.ok ++ [Reply.ok w]) →
      exec .waitResetAsserted s = .next ({ s.after (1 + vs.length + 1)
          (Event.apWrite 1 0x04 0x00000008#32 true :: (delayedPolls s.config.resetPollDelayMs vs ++
            [Event.apRead 1 0x00 (some w)])) with
        snap := some ⟨w, sn.control⟩, pollCnt := vs.length + 1 }.succeeded 0 0)) ∧
    (s.snap = some sn → vs.length = s.config.resetPollMax →
      s.upcoming (1 + vs.length) = Reply.ok x :: vs.map Reply.ok →
      exec .waitResetAsserted s = .next ({ s.after (1 + vs.length)
          (Event.apWrite 1 0x04 0x00000008#32 true :: delayedPolls s.config.resetPollDelayMs vs) with
        snap := some ⟨vs.getLast?.getD sn.status, sn.control⟩,
        pollCnt := vs.length }.failedIn .timeoutReset 0)) ∧
    (s.snap = some sn → s.upcoming 1 = [Reply.err] →
      exec .waitResetAsserted s = .next ({ s.after 1 [Event.apWrite 1 0x04 0x00000008#32 false] with
        pollCnt := 0 }.failedIn .regWriteFailure 0)) ∧
    (s.snap = some sn → s.config.pollReadErrPolicy = .abort → vs.length < s.config.resetPollMax →
      s.upcoming (1 + vs.length + 1) = Reply.ok x :: (vs.map Reply.ok ++ [Reply.err]) →
      exec .waitResetAsserted s = .next ({ s.after (1 + vs.length + 1)
          (Event.apWrite 1 0x04 0x00000008#32 true :: (delayedPolls s.config.resetPollDelayMs vs ++
            [Event.apRead 1 0x00 none])) with
        snap := some ⟨vs.getLast?.getD sn.status, sn.control⟩,
        pollCnt := vs.length }.failedIn .regReadFailure 0)) ∧
    (s.snap = none → exec .waitResetAsserted s = .next (s.failedIn .noSession 0))

/-- R142, R144: `WAIT_FLASH_READY` when every transaction is answered `Ok`. `vs` are the polls that read
bit 1 as 0. The verdict is the polls' alone; the closing refresh is made on either outcome and its
values are the snapshot that is left; there is no delay. -/
def Obligations.WaitFlashReadyCommand : Prop :=
  ∀ (s : State) (sn : Snapshot) (s0 c0 w s1 c1 : Word) (vs : List Word),
    (∀ v ∈ vs, v.getLsbD 1 = false) → s.config.flashPollDelayMs = none →
    (s.snap = some sn → vs.length < s.config.flashPollMax → w.getLsbD 1 = true →
      s.upcoming (2 + vs.length + 3) =
        [Reply.ok s0, Reply.ok c0] ++ vs.map Reply.ok ++ [Reply.ok w, Reply.ok s1, Reply.ok c1] →
      exec .waitFlashReady s = .next ({ s.after (2 + vs.length + 3)
          (reloadEvents s0 c0 ++ plainPolls vs ++ [Event.apRead 1 0x00 (some w)] ++ reloadEvents s1 c1) with
        snap := some ⟨s1, c1⟩, pollCnt := vs.length + 1 }.succeeded 0 0)) ∧
    (s.snap = some sn → vs.length = s.config.flashPollMax →
      s.upcoming (2 + vs.length + 2) =
        [Reply.ok s0, Reply.ok c0] ++ vs.map Reply.ok ++ [Reply.ok s1, Reply.ok c1] →
      exec .waitFlashReady s = .next ({ s.after (2 + vs.length + 2)
          (reloadEvents s0 c0 ++ plainPolls vs ++ reloadEvents s1 c1) with
        snap := some ⟨s1, c1⟩, pollCnt := vs.length }.failedIn .timeoutFlashReady 0)) ∧
    (s.snap = none → exec .waitFlashReady s = .next (s.failedIn .noSession 0))

/-- R142, R183, R189: a failed read inside `WAIT_FLASH_READY` ends it with `REG_READ_FAILURE`: in the
opening refresh or a poll no closing refresh is made; in the closing refresh, whether a poll saw bit 1 or
the budget ran out, it is reported instead of the polls' verdict, and the values of that refresh are
discarded. -/
def Obligations.WaitFlashReadyReadFailure : Prop :=
  ∀ (s : State) (sn : Snapshot) (s0 c0 w s1 : Word) (vs : List Word),
    (∀ v ∈ vs, v.getLsbD 1 = false) → s.config.flashPollDelayMs = none → s.snap = some sn →
    (s.upcoming 1 = [Reply.err] →
      exec .waitFlashReady s = .next ({ s.after 1 [Event.apRead 1 0x00 none] with
        pollCnt := 0 }.failedIn .regReadFailure 0)) ∧
    (s.config.pollReadErrPolicy = .abort → vs.length < s.config.flashPollMax →
      s.upcoming (2 + vs.length + 1) = [Reply.ok s0, Reply.ok c0] ++ vs.map Reply.ok ++ [Reply.err] →
      exec .waitFlashReady s = .next ({ s.after (2 + vs.length + 1)
          (reloadEvents s0 c0 ++ plainPolls vs ++ [Event.apRead 1 0x00 none]) with
        snap := some ⟨vs.getLast?.getD s0, c0⟩, pollCnt := vs.length }.failedIn .regReadFailure 0)) ∧
    (s.upcoming 2 = [Reply.ok s0, Reply.err] →
      exec .waitFlashReady s = .next ({ s.after 2
          [Event.apRead 1 0x00 (some s0), Event.apRead 1 0x04 none] with
        pollCnt := 0 }.failedIn .regReadFailure 0)) ∧
    (vs.length = s.config.flashPollMax →
      s.upcoming (2 + vs.length + 2) =
        [Reply.ok s0, Reply.ok c0] ++ vs.map Reply.ok ++ [Reply.ok s1, Reply.err] →
      exec .waitFlashReady s = .next ({ s.after (2 + vs.length + 2)
          (reloadEvents s0 c0 ++ plainPolls vs ++
            [Event.apRead 1 0x00 (some s1), Event.apRead 1 0x04 none]) with
        snap := some ⟨vs.getLast?.getD s0, c0⟩, pollCnt := vs.length }.failedIn .regReadFailure 0)) ∧
    (vs.length < s.config.flashPollMax → w.getLsbD 1 = true →
      s.upcoming (2 + vs.length + 2) =
        [Reply.ok s0, Reply.ok c0] ++ vs.map Reply.ok ++ [Reply.ok w, Reply.err] →
      exec .waitFlashReady s = .next ({ s.after (2 + vs.length + 2)
          (reloadEvents s0 c0 ++ plainPolls vs ++
            [Event.apRead 1 0x00 (some w), Event.apRead 1 0x00 none]) with
        snap := some ⟨w, c0⟩, pollCnt := vs.length + 1 }.failedIn .regReadFailure 0)) ∧
    (vs.length < s.config.flashPollMax → w.getLsbD 1 = true →
      s.upcoming (2 + vs.length + 3) =
        [Reply.ok s0, Reply.ok c0] ++ vs.map Reply.ok ++ [Reply.ok w, Reply.ok s1, Reply.err] →
      exec .waitFlashReady s = .next ({ s.after (2 + vs.length + 3)
          (reloadEvents s0 c0 ++ plainPolls vs ++
            [Event.apRead 1 0x00 (some w), Event.apRead 1 0x00 (some s1), Event.apRead 1 0x04 none]) with
        snap := some ⟨w, c0⟩, pollCnt := vs.length + 1 }.failedIn .regReadFailure 0)) ∧
    (vs.length = s.config.flashPollMax →
      s.upcoming (2 + vs.length + 1) = [Reply.ok s0, Reply.ok c0] ++ vs.map Reply.ok ++ [Reply.err] →
      exec .waitFlashReady s = .next ({ s.after (2 + vs.length + 1)
          (reloadEvents s0 c0 ++ plainPolls vs ++ [Event.apRead 1 0x00 none]) with
        snap := some ⟨vs.getLast?.getD s0, c0⟩, pollCnt := vs.length }.failedIn .regReadFailure 0))

/-- R143 (a), (c), (d): whatever the environment answers, `WAIT_RESET_ASSERTED` on a session issues one
write, at most `RESET_POLL_MAX` reads, all of Status, and at most as many delays; when reads fail at
once, `poll_cnt` is the number of reads answered `Ok`. -/
def Obligations.WaitResetBounds : Prop :=
  ∀ (s t : State) (sn : Snapshot), s.snap = some sn → exec .waitResetAsserted s = .next t →
    ∃ evs, t.trace = s.trace ++ evs ∧
      evs.countP Event.isApWrite = 1 ∧
      evs.countP Event.isApRead = evs.countP Event.isStatusRead ∧
      evs.countP Event.isApRead ≤ s.config.resetPollMax ∧
      evs.countP Event.isDelay ≤ evs.countP Event.isApRead ∧
      (s.config.pollReadErrPolicy = .abort →
        t.pollCnt = evs.countP (fun e => e.isApRead && !e.isErr))

/-- R143 (b), (d), R144: whatever the environment answers, `WAIT_FLASH_READY` issues no write, no delay
and at most `FLASH_POLL_MAX + 4` reads; on success it issues `2 + k + 2` of them, `k = poll_cnt`. -/
def Obligations.WaitFlashBounds : Prop :=
  ∀ (s t : State) (sn : Snapshot), s.snap = some sn → s.config.flashPollDelayMs = none →
    exec .waitFlashReady s = .next t →
    ∃ evs, t.trace = s.trace ++ evs ∧
      evs.countP Event.isApWrite = 0 ∧ evs.countP Event.isDelay = 0 ∧
      evs.countP Event.isApRead ≤ s.config.flashPollMax + 4 ∧
      (t.cause = .none → 1 ≤ t.pollCnt ∧ t.pollCnt ≤ s.config.flashPollMax ∧
        evs.countP Event.isApRead = 2 + t.pollCnt + 2)

/-! ### Unlock Orchestrator -/

/-- R150 to R162: `UNLOCK` against an environment that answers every transaction `Ok`, ends both waits
within their budgets and reads `security` 0 at step 6 runs all eleven steps, with exactly these events in
this order, and ends `DONE` with the session destroyed. No condition is put on the IDR (R155), on what
DHCSR reads (R159, R161) or on any other value read. -/
def Obligations.UnlockSucceeds : Prop :=
  ∀ (s : State) (a : UnlockAnswers), a.waitsEnd s.config → a.status6.getLsbD 2 = false →
    s.config.flashPollDelayMs = none →
    s.upcoming (a.repliesToS6 ++ a.repliesFromS7).length = a.repliesToS6 ++ a.repliesFromS7 →
    exec .unlock s = .next ({ s.after (a.repliesToS6 ++ a.repliesFromS7).length
        (a.eventsToS6 s.config ++ a.eventsFromS7 s.config) with
      snap := none, stepReg := .done, pollCnt := a.flashPolls.length + 1,
      posted := [] }.succeeded 0 0)

/-- R157, R192: with `security` read 1 at step 6 the same run stops there: the guidance is logged, no
further transaction is issued, and the block ends `ABORT_SECURED` with cause `TARGET_SECURED`. -/
def Obligations.UnlockSecuredAbort : Prop :=
  ∀ (s : State) (a : UnlockAnswers), a.waitsEnd s.config → a.status6.getLsbD 2 = true →
    s.config.flashPollDelayMs = none →
    s.upcoming a.repliesToS6.length = a.repliesToS6 →
    exec .unlock s = .next ({ s.after a.repliesToS6.length
        (a.eventsToS6 s.config ++ [Event.log .securedGuidance]) with
      snap := none, stepReg := .abortSecured,
      pollCnt := a.flashPolls.length + 1 }.failedIn .targetSecured 6)

/-- R152, R186: a failed attach ends `UNLOCK` in step 1 without the reset request; so does a failed reset
request. -/
def Obligations.UnlockAttachFailure : Prop :=
  ∀ (s : State) (x : Word),
    (s.upcoming 1 = [Reply.err] →
      exec .unlock s = .next ({ s.after 1
          [Event.probeAttach false, Event.log (.error .attachInitFailure 1)] with
        snap := none, stepReg := .failed, pollCnt := 0 }.failedIn .attachInitFailure 1)) ∧
    (s.upcoming 2 = [Reply.ok x, Reply.err] →
      exec .unlock s = .next ({ s.after 2
          [Event.probeAttach true, Event.probeTargetReset false, Event.log (.error .attachInitFailure 1)] with
        snap := none, stepReg := .failed, pollCnt := 0 }.failedIn .attachInitFailure 1))

/-- R163, R164, R192: however the environment answers, `UNLOCK` ends in a terminal state with the session
destroyed: `DONE` with success; `ABORT_SECURED` with cause 9 in step 6, the guidance logged last; or
`FAILED` with a cause that the step it names can raise, `Error(cause, n)` logged last. -/
def Obligations.UnlockEndings : Prop :=
  ∀ s : State, ∃ t evs, exec .unlock s = .next t ∧ t.snap = none ∧ t.trace = s.trace ++ evs ∧
    ((t.stepReg = .done ∧ t.cause = .none ∧ t.failStep = 0 ∧
        t.result = some ⟨true, .none, 0, 0, 0, []⟩) ∨
     (t.stepReg = .abortSecured ∧ t.cause = .targetSecured ∧ t.failStep = 6 ∧
        t.result = some ⟨false, .targetSecured, 6, 0, 0, []⟩ ∧
        evs.getLast? = some (Event.log .securedGuidance)) ∨
     (t.stepReg = .failed ∧ t.cause ∈ stepCauses t.failStep ∧
        t.result = some ⟨false, t.cause, t.failStep, 0, 0, []⟩ ∧
        evs.getLast? = some (Event.log (.error t.cause t.failStep))))

/-- R69, R231: whenever `UNLOCK` ends `DONE`, it has issued exactly this many transactions of each kind
and let exactly this much time pass; and every posted memory write has been delivered (R67). -/
def Obligations.UnlockBudget : Prop :=
  ∀ s t : State, exec .unlock s = .next t → t.stepReg = .done → s.config.flashPollDelayMs = none →
    ∃ evs k1 k2, t.trace = s.trace ++ evs ∧
      1 ≤ k1 ∧ k1 ≤ s.config.resetPollMax ∧ 1 ≤ k2 ∧ k2 ≤ s.config.flashPollMax ∧ t.pollCnt = k2 ∧
      evs.countP Event.isApRead = 17 + k1 + k2 ∧ evs.countP Event.isApWrite = 3 ∧
      evs.countP Event.isMemRead = 3 ∧ evs.countP Event.isMemWrite = 1 ∧
      evs.countP Event.isMemFlush = 1 ∧ evs.countP Event.isProbe = 2 ∧
      evs.countP Event.isDelay = (k1 - 1) + 2 ∧
      delayTotal evs = (k1 - 1) * s.config.resetPollDelayMs + s.config.haltSettleMs +
        s.config.resetReleaseMs ∧
      t.posted = []

/-- R157, X6: whenever `UNLOCK` ends `ABORT_SECURED`, the one Control write it issued is the reset
request of step 3; it wrote no debug request and never touched the memory-mapped interface. -/
def Obligations.SecuredAbortNeverDebugs : Prop :=
  ∀ s t : State, exec .unlock s = .next t → t.stepReg = .abortSecured →
    ∃ evs, t.trace = s.trace ++ evs ∧
      evs.filter Event.isApWrite = [Event.apWrite 1 0x04 0x00000008#32 true] ∧
      evs.countP Event.isMemRead = 0 ∧ evs.countP Event.isMemWrite = 0 ∧
      evs.countP Event.isMemFlush = 0 ∧ t.posted = s.posted

/-- R165, row by row. An accepted `UNLOCK` leads to `S1` and a reset of the block to `IDLE`, from any
value. A step goes on or fails; it fails exactly when it leaves another cause than none and
`TARGET_SECURED`. `S6` goes on or aborts exactly when its refresh is answered, by Status bit 2 of that
refresh. A resting value stays. One part of `UNLOCK` at a time is the model's view inside a step (log 1);
no other command moves the register (StandaloneKeepsStepRegister). -/
def Obligations.StepRegisterEdges : Prop :=
  ∀ s : State,
    (unlockStart s).stepReg = .s1 ∧
    (∀ rest, s.inputs = .reset :: rest → ∃ t, step s = .next t ∧ t.stepReg = .idle) ∧
    (s.stepReg.resting = true → unlockAdvance s = s) ∧
    (s.cause = .none →
      (s.stepReg = .s1 → (unlockAdvance s).stepReg ∈ [.s2, .failed]) ∧
      (s.stepReg = .s2 → (unlockAdvance s).stepReg ∈ [.s3, .failed]) ∧
      (s.stepReg = .s3 → (unlockAdvance s).stepReg ∈ [.s4, .failed]) ∧
      (s.stepReg = .s4 → (unlockAdvance s).stepReg ∈ [.s5, .failed]) ∧
      (s.stepReg = .s5 → (unlockAdvance s).stepReg ∈ [.s6, .failed]) ∧
      (s.stepReg = .s6 → (unlockAdvance s).stepReg ∈ [.s7, .abortSecured, .failed]) ∧
      (s.stepReg = .s7 → (unlockAdvance s).stepReg ∈ [.s8, .failed]) ∧
      (s.stepReg = .s8 → (unlockAdvance s).stepReg ∈ [.s9, .failed]) ∧
      (s.stepReg = .s9 → (unlockAdvance s).stepReg ∈ [.s10, .failed]) ∧
      (s.stepReg = .s10 → (unlockAdvance s).stepReg ∈ [.s11, .failed]) ∧
      (s.stepReg = .s11 → (unlockAdvance s).stepReg ∈ [.done, .failed]) ∧
      (s.stepReg.resting = false →
        ((unlockAdvance s).stepReg = .failed ↔
          (unlockAdvance s).cause ≠ .none ∧ (unlockAdvance s).cause ≠ .targetSecured)) ∧
      (s.stepReg = .s6 →
        ((unlockAdvance s).stepReg = .abortSecured ↔ (unlockAdvance s).cause = .targetSecured) ∧
        ((unlockAdvance s).stepReg = .s7 ↔ s.snap.isSome = true ∧
          ∃ st ct : Word, s.upcoming 2 = [Reply.ok st, Reply.ok ct] ∧ st.getLsbD 2 = false) ∧
        ((unlockAdvance s).stepReg = .abortSecured ↔ s.snap.isSome = true ∧
          ∃ st ct : Word, s.upcoming 2 = [Reply.ok st, Reply.ok ct] ∧ st.getLsbD 2 = true)))

/-! ### The whole machine -/

/-- R185, R195: when reads that fail end a command at once, at most one transaction of a command is
answered `Err`, it is the last one issued, and this happens exactly when the command ends with a
transport cause. -/
def Obligations.FailureIsPrecise : Prop :=
  ∀ (s t : State) (i : Instr), s.config.pollReadErrPolicy = .abort → exec i s = .next t →
    ∃ evs, t.trace = s.trace ++ evs ∧
      (t.cause.isTransport = false → ∀ e ∈ evs, e.isErr = false) ∧
      (t.cause.isTransport = true → ∃ before last, evs.filter Event.isTransaction = before ++ [last] ∧
        last.isErr = true ∧ ∀ e ∈ before, e.isErr = false)

/-- R24, R185: a command issued on its own leaves the step register. -/
def Obligations.StandaloneKeepsStepRegister : Prop :=
  ∀ (s t : State) (i : Instr), i ≠ .unlock → exec i s = .next t → t.stepReg = s.stepReg

/-- R42, R21: what every command does to the session, whatever the answers. After `UNLOCK` there is no
snapshot; after any other command there is one exactly when there was one before or the command is a
`READ` that ended with cause none. (A reset of the block, which is no command, ends a session too:
BlockResetTouchesNothingElse.) -/
def Obligations.SnapshotLifecycle : Prop :=
  ∀ (s t : State) (i : Instr), exec i s = .next t →
    (i = .unlock → t.snap = none) ∧
    (i ≠ .unlock → s.snap.isSome = true → t.snap.isSome = true) ∧
    (i ≠ .unlock → s.snap = none →
      (t.snap.isSome = true ↔ t.cause = .none ∧ (i = .read true ∨ i = .read false)))

/-- R30, R50, R64: what every command leaves alone, and that it only extends the trace, taking one
answer per transaction it issues and no other. -/
def Obligations.CommandFrame : Prop :=
  ∀ (s t : State) (i : Instr), exec i s = .next t →
    t.config = s.config ∧ t.inputs = s.inputs ∧ t.sidePorts = s.sidePorts ∧
    (i ≠ .unlock → t.posted = s.posted) ∧
    (i ≠ .waitResetAsserted → i ≠ .waitFlashReady → i ≠ .unlock → t.pollCnt = s.pollCnt) ∧
    ∃ evs, t.trace = s.trace ++ evs ∧
      t.asked = s.asked + evs.countP Event.isTransaction ∧
      t.script = s.script.drop (evs.countP Event.isTransaction)

/-- R61, R30 (d): no command reads the log or the events issued before: with another history it does the
same and adds the same events. -/
def Obligations.HistoryNotRead : Prop :=
  ∀ (s : State) (i : Instr) (history : List Event), ∃ t evs,
    exec i s = .next t ∧ t.trace = s.trace ++ evs ∧
    exec i { s with trace := history } = .next { t with trace := history ++ evs }

/-- R91: no command but `DIFF` reads the side ports. -/
def Obligations.SidePortsReadByDiffAlone : Prop :=
  ∀ (s : State) (i : Instr) (ports : SidePorts), i ≠ .diff → ∃ t,
    exec i s = .next t ∧ exec i { s with sidePorts := ports } = .next { t with sidePorts := ports }

/-- R21, R151: `UNLOCK` does nothing with the snapshot it finds: it drops it at its start. -/
def Obligations.UnlockIgnoresSession : Prop :=
  ∀ (s : State) (sn : Option Snapshot), exec .unlock { s with snap := sn } = exec .unlock s

/-- R54, R55, R67: a memory-mapped write answered `Ok` may be held back; a flush answered `Ok` has
delivered every such write; a flush answered `Err` fails (R187). `posted` is the model's list of the
writes no flush has confirmed (log 12). R67 does not say what a failed flush delivers; that the list then
stays as it was is the model's choice (log 12): the writes in it are unconfirmed, not undelivered. -/
def Obligations.FlushDeliversPosted : Prop :=
  ∀ (s : State) (addr v x : Word),
    (s.upcoming 1 = [Reply.ok x] → memWrite addr v s =
      .ok () { s.after 1 [Event.memWrite addr v true] with posted := s.posted ++ [⟨addr, v⟩] }) ∧
    (s.upcoming 1 = [Reply.ok x] → memFlush s = .ok () { s.after 1 [Event.memFlush true] with posted := [] }) ∧
    (s.upcoming 1 = [Reply.err] → memFlush s = .fail .stepTransportFailure (s.after 1 [Event.memFlush false]))

/-- R65, R27, R25, R181, R95: the reset state meets the invariant. -/
def Obligations.ResetMeetsInv : Prop := State.reset.Inv

/-- R65, R27, R25, R181, R95: every step keeps the invariant. -/
def Obligations.StepKeepsInv : Prop :=
  ∀ s t : State, s.Inv → step s = .next t → t.Inv

/-- R63, R30 (b): every step keeps the configuration, and so its well-formedness (the alignment of
`DHCSR_ADDR`). -/
def Obligations.StepKeepsConfig : Prop :=
  ∀ s t : State, step s = .next t → t.config = s.config ∧ t.config.wellFormed = s.config.wellFormed

/-- R24, R181: the numbers of the step register's values and of the causes are distinct, and 15 and 12 to
15 never occur. -/
def Obligations.CodesDistinct : Prop :=
  (∀ a b : UnlockStep, stepCode a = stepCode b → a = b) ∧ (∀ a : UnlockStep, stepCode a ≠ 15) ∧
  (∀ a b : Cause, causeCode a = causeCode b → a = b) ∧ (∀ a : Cause, (causeCode a).toNat ≤ 11)
end

