-- ==== Sys2Proof/Laws/State.lean ====
section
/-! SUPPORT. One lemma per field per update of State, true by rfl: no later proof unfolds a record
update. -/

namespace Sys2Proof.Machine

@[simp] theorem State.emit_snap (s : State) (e : Event) : (s.emit e).snap = s.snap := rfl
@[simp] theorem State.emit_stepReg (s : State) (e : Event) : (s.emit e).stepReg = s.stepReg := rfl
@[simp] theorem State.emit_pollCnt (s : State) (e : Event) : (s.emit e).pollCnt = s.pollCnt := rfl
@[simp] theorem State.emit_cause (s : State) (e : Event) : (s.emit e).cause = s.cause := rfl
@[simp] theorem State.emit_failStep (s : State) (e : Event) : (s.emit e).failStep = s.failStep := rfl
@[simp] theorem State.emit_sidePorts (s : State) (e : Event) : (s.emit e).sidePorts = s.sidePorts := rfl
@[simp] theorem State.emit_result (s : State) (e : Event) : (s.emit e).result = s.result := rfl
@[simp] theorem State.emit_config (s : State) (e : Event) : (s.emit e).config = s.config := rfl
@[simp] theorem State.emit_inputs (s : State) (e : Event) : (s.emit e).inputs = s.inputs := rfl
@[simp] theorem State.emit_script (s : State) (e : Event) : (s.emit e).script = s.script := rfl
@[simp] theorem State.emit_asked (s : State) (e : Event) : (s.emit e).asked = s.asked := rfl
@[simp] theorem State.emit_posted (s : State) (e : Event) : (s.emit e).posted = s.posted := rfl
@[simp] theorem State.emit_trace (s : State) (e : Event) : (s.emit e).trace = s.trace ++ [e] := rfl

@[simp] theorem State.delay_snap (s : State) (ms : Nat) : (s.delay ms).snap = s.snap := rfl
@[simp] theorem State.delay_stepReg (s : State) (ms : Nat) : (s.delay ms).stepReg = s.stepReg := rfl
@[simp] theorem State.delay_pollCnt (s : State) (ms : Nat) : (s.delay ms).pollCnt = s.pollCnt := rfl
@[simp] theorem State.delay_cause (s : State) (ms : Nat) : (s.delay ms).cause = s.cause := rfl
@[simp] theorem State.delay_failStep (s : State) (ms : Nat) : (s.delay ms).failStep = s.failStep := rfl
@[simp] theorem State.delay_sidePorts (s : State) (ms : Nat) : (s.delay ms).sidePorts = s.sidePorts := rfl
@[simp] theorem State.delay_result (s : State) (ms : Nat) : (s.delay ms).result = s.result := rfl
@[simp] theorem State.delay_config (s : State) (ms : Nat) : (s.delay ms).config = s.config := rfl
@[simp] theorem State.delay_inputs (s : State) (ms : Nat) : (s.delay ms).inputs = s.inputs := rfl
@[simp] theorem State.delay_script (s : State) (ms : Nat) : (s.delay ms).script = s.script := rfl
@[simp] theorem State.delay_asked (s : State) (ms : Nat) : (s.delay ms).asked = s.asked := rfl
@[simp] theorem State.delay_posted (s : State) (ms : Nat) : (s.delay ms).posted = s.posted := rfl
@[simp] theorem State.delay_trace (s : State) (ms : Nat) : (s.delay ms).trace = s.trace ++ [.delay ms] := rfl

@[simp] theorem State.log_snap (s : State) (item : LogItem) : (s.log item).snap = s.snap := rfl
@[simp] theorem State.log_stepReg (s : State) (item : LogItem) : (s.log item).stepReg = s.stepReg := rfl
@[simp] theorem State.log_pollCnt (s : State) (item : LogItem) : (s.log item).pollCnt = s.pollCnt := rfl
@[simp] theorem State.log_cause (s : State) (item : LogItem) : (s.log item).cause = s.cause := rfl
@[simp] theorem State.log_failStep (s : State) (item : LogItem) : (s.log item).failStep = s.failStep := rfl
@[simp] theorem State.log_sidePorts (s : State) (item : LogItem) : (s.log item).sidePorts = s.sidePorts := rfl
@[simp] theorem State.log_result (s : State) (item : LogItem) : (s.log item).result = s.result := rfl
@[simp] theorem State.log_config (s : State) (item : LogItem) : (s.log item).config = s.config := rfl
@[simp] theorem State.log_inputs (s : State) (item : LogItem) : (s.log item).inputs = s.inputs := rfl
@[simp] theorem State.log_script (s : State) (item : LogItem) : (s.log item).script = s.script := rfl
@[simp] theorem State.log_asked (s : State) (item : LogItem) : (s.log item).asked = s.asked := rfl
@[simp] theorem State.log_posted (s : State) (item : LogItem) : (s.log item).posted = s.posted := rfl
@[simp] theorem State.log_trace (s : State) (item : LogItem) : (s.log item).trace = s.trace ++ [.log item] := rfl

@[simp] theorem State.consume_snap (s : State) : (s.consume).snap = s.snap := rfl
@[simp] theorem State.consume_stepReg (s : State) : (s.consume).stepReg = s.stepReg := rfl
@[simp] theorem State.consume_pollCnt (s : State) : (s.consume).pollCnt = s.pollCnt := rfl
@[simp] theorem State.consume_cause (s : State) : (s.consume).cause = s.cause := rfl
@[simp] theorem State.consume_failStep (s : State) : (s.consume).failStep = s.failStep := rfl
@[simp] theorem State.consume_sidePorts (s : State) : (s.consume).sidePorts = s.sidePorts := rfl
@[simp] theorem State.consume_result (s : State) : (s.consume).result = s.result := rfl
@[simp] theorem State.consume_config (s : State) : (s.consume).config = s.config := rfl
@[simp] theorem State.consume_inputs (s : State) : (s.consume).inputs = s.inputs := rfl
@[simp] theorem State.consume_script (s : State) : (s.consume).script = s.script.tail := rfl
@[simp] theorem State.consume_asked (s : State) : (s.consume).asked = s.asked + 1 := rfl
@[simp] theorem State.consume_posted (s : State) : (s.consume).posted = s.posted := rfl
@[simp] theorem State.consume_trace (s : State) : (s.consume).trace = s.trace := rfl

@[simp] theorem State.after_snap (s : State) (n : Nat) (evs : List Event) : (s.after n evs).snap = s.snap := rfl
@[simp] theorem State.after_stepReg (s : State) (n : Nat) (evs : List Event) : (s.after n evs).stepReg = s.stepReg := rfl
@[simp] theorem State.after_pollCnt (s : State) (n : Nat) (evs : List Event) : (s.after n evs).pollCnt = s.pollCnt := rfl
@[simp] theorem State.after_cause (s : State) (n : Nat) (evs : List Event) : (s.after n evs).cause = s.cause := rfl
@[simp] theorem State.after_failStep (s : State) (n : Nat) (evs : List Event) : (s.after n evs).failStep = s.failStep := rfl
@[simp] theorem State.after_sidePorts (s : State) (n : Nat) (evs : List Event) : (s.after n evs).sidePorts = s.sidePorts := rfl
@[simp] theorem State.after_result (s : State) (n : Nat) (evs : List Event) : (s.after n evs).result = s.result := rfl
@[simp] theorem State.after_config (s : State) (n : Nat) (evs : List Event) : (s.after n evs).config = s.config := rfl
@[simp] theorem State.after_inputs (s : State) (n : Nat) (evs : List Event) : (s.after n evs).inputs = s.inputs := rfl
@[simp] theorem State.after_script (s : State) (n : Nat) (evs : List Event) : (s.after n evs).script = s.script.drop n := rfl
@[simp] theorem State.after_asked (s : State) (n : Nat) (evs : List Event) : (s.after n evs).asked = s.asked + n := rfl
@[simp] theorem State.after_posted (s : State) (n : Nat) (evs : List Event) : (s.after n evs).posted = s.posted := rfl
@[simp] theorem State.after_trace (s : State) (n : Nat) (evs : List Event) : (s.after n evs).trace = s.trace ++ evs := rfl

@[simp] theorem State.post_snap (s : State) (addr v : Word) : (s.post addr v).snap = s.snap := rfl
@[simp] theorem State.post_stepReg (s : State) (addr v : Word) : (s.post addr v).stepReg = s.stepReg := rfl
@[simp] theorem State.post_pollCnt (s : State) (addr v : Word) : (s.post addr v).pollCnt = s.pollCnt := rfl
@[simp] theorem State.post_cause (s : State) (addr v : Word) : (s.post addr v).cause = s.cause := rfl
@[simp] theorem State.post_failStep (s : State) (addr v : Word) : (s.post addr v).failStep = s.failStep := rfl
@[simp] theorem State.post_sidePorts (s : State) (addr v : Word) : (s.post addr v).sidePorts = s.sidePorts := rfl
@[simp] theorem State.post_result (s : State) (addr v : Word) : (s.post addr v).result = s.result := rfl
@[simp] theorem State.post_config (s : State) (addr v : Word) : (s.post addr v).config = s.config := rfl
@[simp] theorem State.post_inputs (s : State) (addr v : Word) : (s.post addr v).inputs = s.inputs := rfl
@[simp] theorem State.post_script (s : State) (addr v : Word) : (s.post addr v).script = s.script := rfl
@[simp] theorem State.post_asked (s : State) (addr v : Word) : (s.post addr v).asked = s.asked := rfl
@[simp] theorem State.post_posted (s : State) (addr v : Word) : (s.post addr v).posted = s.posted ++ [⟨addr, v⟩] := rfl
@[simp] theorem State.post_trace (s : State) (addr v : Word) : (s.post addr v).trace = s.trace := rfl

@[simp] theorem State.deliverPosted_snap (s : State) : (s.deliverPosted).snap = s.snap := rfl
@[simp] theorem State.deliverPosted_stepReg (s : State) : (s.deliverPosted).stepReg = s.stepReg := rfl
@[simp] theorem State.deliverPosted_pollCnt (s : State) : (s.deliverPosted).pollCnt = s.pollCnt := rfl
@[simp] theorem State.deliverPosted_cause (s : State) : (s.deliverPosted).cause = s.cause := rfl
@[simp] theorem State.deliverPosted_failStep (s : State) : (s.deliverPosted).failStep = s.failStep := rfl
@[simp] theorem State.deliverPosted_sidePorts (s : State) : (s.deliverPosted).sidePorts = s.sidePorts := rfl
@[simp] theorem State.deliverPosted_result (s : State) : (s.deliverPosted).result = s.result := rfl
@[simp] theorem State.deliverPosted_config (s : State) : (s.deliverPosted).config = s.config := rfl
@[simp] theorem State.deliverPosted_inputs (s : State) : (s.deliverPosted).inputs = s.inputs := rfl
@[simp] theorem State.deliverPosted_script (s : State) : (s.deliverPosted).script = s.script := rfl
@[simp] theorem State.deliverPosted_asked (s : State) : (s.deliverPosted).asked = s.asked := rfl
@[simp] theorem State.deliverPosted_posted (s : State) : (s.deliverPosted).posted = [] := rfl
@[simp] theorem State.deliverPosted_trace (s : State) : (s.deliverPosted).trace = s.trace := rfl

@[simp] theorem State.loadSnapshot_snap (s : State) (st ct : Word) : (s.loadSnapshot st ct).snap = some ⟨st, ct⟩ := rfl
@[simp] theorem State.loadSnapshot_stepReg (s : State) (st ct : Word) : (s.loadSnapshot st ct).stepReg = s.stepReg := rfl
@[simp] theorem State.loadSnapshot_pollCnt (s : State) (st ct : Word) : (s.loadSnapshot st ct).pollCnt = s.pollCnt := rfl
@[simp] theorem State.loadSnapshot_cause (s : State) (st ct : Word) : (s.loadSnapshot st ct).cause = s.cause := rfl
@[simp] theorem State.loadSnapshot_failStep (s : State) (st ct : Word) : (s.loadSnapshot st ct).failStep = s.failStep := rfl
@[simp] theorem State.loadSnapshot_sidePorts (s : State) (st ct : Word) : (s.loadSnapshot st ct).sidePorts = s.sidePorts := rfl
@[simp] theorem State.loadSnapshot_result (s : State) (st ct : Word) : (s.loadSnapshot st ct).result = s.result := rfl
@[simp] theorem State.loadSnapshot_config (s : State) (st ct : Word) : (s.loadSnapshot st ct).config = s.config := rfl
@[simp] theorem State.loadSnapshot_inputs (s : State) (st ct : Word) : (s.loadSnapshot st ct).inputs = s.inputs := rfl
@[simp] theorem State.loadSnapshot_script (s : State) (st ct : Word) : (s.loadSnapshot st ct).script = s.script := rfl
@[simp] theorem State.loadSnapshot_asked (s : State) (st ct : Word) : (s.loadSnapshot st ct).asked = s.asked := rfl
@[simp] theorem State.loadSnapshot_posted (s : State) (st ct : Word) : (s.loadSnapshot st ct).posted = s.posted := rfl
@[simp] theorem State.loadSnapshot_trace (s : State) (st ct : Word) : (s.loadSnapshot st ct).trace = s.trace := rfl

@[simp] theorem State.loadStatus_snap (s : State) (st : Word) : (s.loadStatus st).snap = s.snap.map fun sn => { sn with status := st } := rfl
@[simp] theorem State.loadStatus_stepReg (s : State) (st : Word) : (s.loadStatus st).stepReg = s.stepReg := rfl
@[simp] theorem State.loadStatus_pollCnt (s : State) (st : Word) : (s.loadStatus st).pollCnt = s.pollCnt := rfl
@[simp] theorem State.loadStatus_cause (s : State) (st : Word) : (s.loadStatus st).cause = s.cause := rfl
@[simp] theorem State.loadStatus_failStep (s : State) (st : Word) : (s.loadStatus st).failStep = s.failStep := rfl
@[simp] theorem State.loadStatus_sidePorts (s : State) (st : Word) : (s.loadStatus st).sidePorts = s.sidePorts := rfl
@[simp] theorem State.loadStatus_result (s : State) (st : Word) : (s.loadStatus st).result = s.result := rfl
@[simp] theorem State.loadStatus_config (s : State) (st : Word) : (s.loadStatus st).config = s.config := rfl
@[simp] theorem State.loadStatus_inputs (s : State) (st : Word) : (s.loadStatus st).inputs = s.inputs := rfl
@[simp] theorem State.loadStatus_script (s : State) (st : Word) : (s.loadStatus st).script = s.script := rfl
@[simp] theorem State.loadStatus_asked (s : State) (st : Word) : (s.loadStatus st).asked = s.asked := rfl
@[simp] theorem State.loadStatus_posted (s : State) (st : Word) : (s.loadStatus st).posted = s.posted := rfl
@[simp] theorem State.loadStatus_trace (s : State) (st : Word) : (s.loadStatus st).trace = s.trace := rfl

@[simp] theorem State.dropSession_snap (s : State) : (s.dropSession).snap = none := rfl
@[simp] theorem State.dropSession_stepReg (s : State) : (s.dropSession).stepReg = s.stepReg := rfl
@[simp] theorem State.dropSession_pollCnt (s : State) : (s.dropSession).pollCnt = s.pollCnt := rfl
@[simp] theorem State.dropSession_cause (s : State) : (s.dropSession).cause = s.cause := rfl
@[simp] theorem State.dropSession_failStep (s : State) : (s.dropSession).failStep = s.failStep := rfl
@[simp] theorem State.dropSession_sidePorts (s : State) : (s.dropSession).sidePorts = s.sidePorts := rfl
@[simp] theorem State.dropSession_result (s : State) : (s.dropSession).result = s.result := rfl
@[simp] theorem State.dropSession_config (s : State) : (s.dropSession).config = s.config := rfl
@[simp] theorem State.dropSession_inputs (s : State) : (s.dropSession).inputs = s.inputs := rfl
@[simp] theorem State.dropSession_script (s : State) : (s.dropSession).script = s.script := rfl
@[simp] theorem State.dropSession_asked (s : State) : (s.dropSession).asked = s.asked := rfl
@[simp] theorem State.dropSession_posted (s : State) : (s.dropSession).posted = s.posted := rfl
@[simp] theorem State.dropSession_trace (s : State) : (s.dropSession).trace = s.trace := rfl

@[simp] theorem State.clearPolls_snap (s : State) : (s.clearPolls).snap = s.snap := rfl
@[simp] theorem State.clearPolls_stepReg (s : State) : (s.clearPolls).stepReg = s.stepReg := rfl
@[simp] theorem State.clearPolls_pollCnt (s : State) : (s.clearPolls).pollCnt = 0 := rfl
@[simp] theorem State.clearPolls_cause (s : State) : (s.clearPolls).cause = s.cause := rfl
@[simp] theorem State.clearPolls_failStep (s : State) : (s.clearPolls).failStep = s.failStep := rfl
@[simp] theorem State.clearPolls_sidePorts (s : State) : (s.clearPolls).sidePorts = s.sidePorts := rfl
@[simp] theorem State.clearPolls_result (s : State) : (s.clearPolls).result = s.result := rfl
@[simp] theorem State.clearPolls_config (s : State) : (s.clearPolls).config = s.config := rfl
@[simp] theorem State.clearPolls_inputs (s : State) : (s.clearPolls).inputs = s.inputs := rfl
@[simp] theorem State.clearPolls_script (s : State) : (s.clearPolls).script = s.script := rfl
@[simp] theorem State.clearPolls_asked (s : State) : (s.clearPolls).asked = s.asked := rfl
@[simp] theorem State.clearPolls_posted (s : State) : (s.clearPolls).posted = s.posted := rfl
@[simp] theorem State.clearPolls_trace (s : State) : (s.clearPolls).trace = s.trace := rfl

@[simp] theorem State.countPoll_snap (s : State) : (s.countPoll).snap = s.snap := rfl
@[simp] theorem State.countPoll_stepReg (s : State) : (s.countPoll).stepReg = s.stepReg := rfl
@[simp] theorem State.countPoll_pollCnt (s : State) : (s.countPoll).pollCnt = s.pollCnt + 1 := rfl
@[simp] theorem State.countPoll_cause (s : State) : (s.countPoll).cause = s.cause := rfl
@[simp] theorem State.countPoll_failStep (s : State) : (s.countPoll).failStep = s.failStep := rfl
@[simp] theorem State.countPoll_sidePorts (s : State) : (s.countPoll).sidePorts = s.sidePorts := rfl
@[simp] theorem State.countPoll_result (s : State) : (s.countPoll).result = s.result := rfl
@[simp] theorem State.countPoll_config (s : State) : (s.countPoll).config = s.config := rfl
@[simp] theorem State.countPoll_inputs (s : State) : (s.countPoll).inputs = s.inputs := rfl
@[simp] theorem State.countPoll_script (s : State) : (s.countPoll).script = s.script := rfl
@[simp] theorem State.countPoll_asked (s : State) : (s.countPoll).asked = s.asked := rfl
@[simp] theorem State.countPoll_posted (s : State) : (s.countPoll).posted = s.posted := rfl
@[simp] theorem State.countPoll_trace (s : State) : (s.countPoll).trace = s.trace := rfl

@[simp] theorem State.accept_snap (s : State) : (s.accept).snap = s.snap := rfl
@[simp] theorem State.accept_stepReg (s : State) : (s.accept).stepReg = s.stepReg := rfl
@[simp] theorem State.accept_pollCnt (s : State) : (s.accept).pollCnt = s.pollCnt := rfl
@[simp] theorem State.accept_cause (s : State) : (s.accept).cause = .none := rfl
@[simp] theorem State.accept_failStep (s : State) : (s.accept).failStep = 0 := rfl
@[simp] theorem State.accept_sidePorts (s : State) : (s.accept).sidePorts = s.sidePorts := rfl
@[simp] theorem State.accept_result (s : State) : (s.accept).result = s.result := rfl
@[simp] theorem State.accept_config (s : State) : (s.accept).config = s.config := rfl
@[simp] theorem State.accept_inputs (s : State) : (s.accept).inputs = s.inputs := rfl
@[simp] theorem State.accept_script (s : State) : (s.accept).script = s.script := rfl
@[simp] theorem State.accept_asked (s : State) : (s.accept).asked = s.asked := rfl
@[simp] theorem State.accept_posted (s : State) : (s.accept).posted = s.posted := rfl
@[simp] theorem State.accept_trace (s : State) : (s.accept).trace = s.trace := rfl

@[simp] theorem State.succeed_snap (s : State) (d0 d1 : Word) (es : List DiffEntry) : (s.succeed d0 d1 es).snap = s.snap := rfl
@[simp] theorem State.succeed_stepReg (s : State) (d0 d1 : Word) (es : List DiffEntry) : (s.succeed d0 d1 es).stepReg = s.stepReg := rfl
@[simp] theorem State.succeed_pollCnt (s : State) (d0 d1 : Word) (es : List DiffEntry) : (s.succeed d0 d1 es).pollCnt = s.pollCnt := rfl
@[simp] theorem State.succeed_cause (s : State) (d0 d1 : Word) (es : List DiffEntry) : (s.succeed d0 d1 es).cause = s.cause := rfl
@[simp] theorem State.succeed_failStep (s : State) (d0 d1 : Word) (es : List DiffEntry) : (s.succeed d0 d1 es).failStep = s.failStep := rfl
@[simp] theorem State.succeed_sidePorts (s : State) (d0 d1 : Word) (es : List DiffEntry) : (s.succeed d0 d1 es).sidePorts = s.sidePorts := rfl
@[simp] theorem State.succeed_result (s : State) (d0 d1 : Word) (es : List DiffEntry) : (s.succeed d0 d1 es).result = some ⟨true, s.cause, s.failStep, d0, d1, es⟩ := rfl
@[simp] theorem State.succeed_config (s : State) (d0 d1 : Word) (es : List DiffEntry) : (s.succeed d0 d1 es).config = s.config := rfl
@[simp] theorem State.succeed_inputs (s : State) (d0 d1 : Word) (es : List DiffEntry) : (s.succeed d0 d1 es).inputs = s.inputs := rfl
@[simp] theorem State.succeed_script (s : State) (d0 d1 : Word) (es : List DiffEntry) : (s.succeed d0 d1 es).script = s.script := rfl
@[simp] theorem State.succeed_asked (s : State) (d0 d1 : Word) (es : List DiffEntry) : (s.succeed d0 d1 es).asked = s.asked := rfl
@[simp] theorem State.succeed_posted (s : State) (d0 d1 : Word) (es : List DiffEntry) : (s.succeed d0 d1 es).posted = s.posted := rfl
@[simp] theorem State.succeed_trace (s : State) (d0 d1 : Word) (es : List DiffEntry) : (s.succeed d0 d1 es).trace = s.trace := rfl

@[simp] theorem State.failWith_snap (s : State) (c : Cause) (n : Fin 12) : (s.failWith c n).snap = s.snap := rfl
@[simp] theorem State.failWith_stepReg (s : State) (c : Cause) (n : Fin 12) : (s.failWith c n).stepReg = s.stepReg := rfl
@[simp] theorem State.failWith_pollCnt (s : State) (c : Cause) (n : Fin 12) : (s.failWith c n).pollCnt = s.pollCnt := rfl
@[simp] theorem State.failWith_cause (s : State) (c : Cause) (n : Fin 12) : (s.failWith c n).cause = c := rfl
@[simp] theorem State.failWith_failStep (s : State) (c : Cause) (n : Fin 12) : (s.failWith c n).failStep = n := rfl
@[simp] theorem State.failWith_sidePorts (s : State) (c : Cause) (n : Fin 12) : (s.failWith c n).sidePorts = s.sidePorts := rfl
@[simp] theorem State.failWith_result (s : State) (c : Cause) (n : Fin 12) : (s.failWith c n).result = some ⟨false, c, n, 0, 0, []⟩ := rfl
@[simp] theorem State.failWith_config (s : State) (c : Cause) (n : Fin 12) : (s.failWith c n).config = s.config := rfl
@[simp] theorem State.failWith_inputs (s : State) (c : Cause) (n : Fin 12) : (s.failWith c n).inputs = s.inputs := rfl
@[simp] theorem State.failWith_script (s : State) (c : Cause) (n : Fin 12) : (s.failWith c n).script = s.script := rfl
@[simp] theorem State.failWith_asked (s : State) (c : Cause) (n : Fin 12) : (s.failWith c n).asked = s.asked := rfl
@[simp] theorem State.failWith_posted (s : State) (c : Cause) (n : Fin 12) : (s.failWith c n).posted = s.posted := rfl
@[simp] theorem State.failWith_trace (s : State) (c : Cause) (n : Fin 12) : (s.failWith c n).trace = s.trace := rfl

@[simp] theorem State.goTo_snap (s : State) (target : UnlockStep) : (s.goTo target).snap = s.snap := rfl
@[simp] theorem State.goTo_stepReg (s : State) (target : UnlockStep) : (s.goTo target).stepReg = target := rfl
@[simp] theorem State.goTo_pollCnt (s : State) (target : UnlockStep) : (s.goTo target).pollCnt = s.pollCnt := rfl
@[simp] theorem State.goTo_cause (s : State) (target : UnlockStep) : (s.goTo target).cause = s.cause := rfl
@[simp] theorem State.goTo_failStep (s : State) (target : UnlockStep) : (s.goTo target).failStep = s.failStep := rfl
@[simp] theorem State.goTo_sidePorts (s : State) (target : UnlockStep) : (s.goTo target).sidePorts = s.sidePorts := rfl
@[simp] theorem State.goTo_result (s : State) (target : UnlockStep) : (s.goTo target).result = s.result := rfl
@[simp] theorem State.goTo_config (s : State) (target : UnlockStep) : (s.goTo target).config = s.config := rfl
@[simp] theorem State.goTo_inputs (s : State) (target : UnlockStep) : (s.goTo target).inputs = s.inputs := rfl
@[simp] theorem State.goTo_script (s : State) (target : UnlockStep) : (s.goTo target).script = s.script := rfl
@[simp] theorem State.goTo_asked (s : State) (target : UnlockStep) : (s.goTo target).asked = s.asked := rfl
@[simp] theorem State.goTo_posted (s : State) (target : UnlockStep) : (s.goTo target).posted = s.posted := rfl
@[simp] theorem State.goTo_trace (s : State) (target : UnlockStep) : (s.goTo target).trace = s.trace := rfl

@[simp] theorem State.blockReset_snap (s : State) : (s.blockReset).snap = none := rfl
@[simp] theorem State.blockReset_stepReg (s : State) : (s.blockReset).stepReg = .idle := rfl
@[simp] theorem State.blockReset_pollCnt (s : State) : (s.blockReset).pollCnt = 0 := rfl
@[simp] theorem State.blockReset_cause (s : State) : (s.blockReset).cause = .none := rfl
@[simp] theorem State.blockReset_failStep (s : State) : (s.blockReset).failStep = 0 := rfl
@[simp] theorem State.blockReset_sidePorts (s : State) : (s.blockReset).sidePorts = s.sidePorts := rfl
@[simp] theorem State.blockReset_result (s : State) : (s.blockReset).result = none := rfl
@[simp] theorem State.blockReset_config (s : State) : (s.blockReset).config = s.config := rfl
@[simp] theorem State.blockReset_inputs (s : State) : (s.blockReset).inputs = s.inputs := rfl
@[simp] theorem State.blockReset_script (s : State) : (s.blockReset).script = s.script := rfl
@[simp] theorem State.blockReset_asked (s : State) : (s.blockReset).asked = s.asked := rfl
@[simp] theorem State.blockReset_posted (s : State) : (s.blockReset).posted = s.posted := rfl
@[simp] theorem State.blockReset_trace (s : State) : (s.blockReset).trace = s.trace := rfl

@[simp] theorem State.present_snap (s : State) (rest : List HostInput) (ports : SidePorts) : (s.present rest ports).snap = s.snap := rfl
@[simp] theorem State.present_stepReg (s : State) (rest : List HostInput) (ports : SidePorts) : (s.present rest ports).stepReg = s.stepReg := rfl
@[simp] theorem State.present_pollCnt (s : State) (rest : List HostInput) (ports : SidePorts) : (s.present rest ports).pollCnt = s.pollCnt := rfl
@[simp] theorem State.present_cause (s : State) (rest : List HostInput) (ports : SidePorts) : (s.present rest ports).cause = s.cause := rfl
@[simp] theorem State.present_failStep (s : State) (rest : List HostInput) (ports : SidePorts) : (s.present rest ports).failStep = s.failStep := rfl
@[simp] theorem State.present_sidePorts (s : State) (rest : List HostInput) (ports : SidePorts) : (s.present rest ports).sidePorts = ports := rfl
@[simp] theorem State.present_result (s : State) (rest : List HostInput) (ports : SidePorts) : (s.present rest ports).result = s.result := rfl
@[simp] theorem State.present_config (s : State) (rest : List HostInput) (ports : SidePorts) : (s.present rest ports).config = s.config := rfl
@[simp] theorem State.present_inputs (s : State) (rest : List HostInput) (ports : SidePorts) : (s.present rest ports).inputs = rest := rfl
@[simp] theorem State.present_script (s : State) (rest : List HostInput) (ports : SidePorts) : (s.present rest ports).script = s.script := rfl
@[simp] theorem State.present_asked (s : State) (rest : List HostInput) (ports : SidePorts) : (s.present rest ports).asked = s.asked := rfl
@[simp] theorem State.present_posted (s : State) (rest : List HostInput) (ports : SidePorts) : (s.present rest ports).posted = s.posted := rfl
@[simp] theorem State.present_trace (s : State) (rest : List HostInput) (ports : SidePorts) : (s.present rest ports).trace = s.trace := rfl

@[simp] theorem State.presentNext_snap (s : State) (w : CommandWord) : (s.presentNext w).snap = s.snap := rfl
@[simp] theorem State.presentNext_stepReg (s : State) (w : CommandWord) : (s.presentNext w).stepReg = s.stepReg := rfl
@[simp] theorem State.presentNext_pollCnt (s : State) (w : CommandWord) : (s.presentNext w).pollCnt = s.pollCnt := rfl
@[simp] theorem State.presentNext_cause (s : State) (w : CommandWord) : (s.presentNext w).cause = s.cause := rfl
@[simp] theorem State.presentNext_failStep (s : State) (w : CommandWord) : (s.presentNext w).failStep = s.failStep := rfl
@[simp] theorem State.presentNext_sidePorts (s : State) (w : CommandWord) : (s.presentNext w).sidePorts = s.sidePorts := rfl
@[simp] theorem State.presentNext_result (s : State) (w : CommandWord) : (s.presentNext w).result = s.result := rfl
@[simp] theorem State.presentNext_config (s : State) (w : CommandWord) : (s.presentNext w).config = s.config := rfl
@[simp] theorem State.presentNext_inputs (s : State) (w : CommandWord) : (s.presentNext w).inputs = .command w s.sidePorts :: s.inputs := rfl
@[simp] theorem State.presentNext_script (s : State) (w : CommandWord) : (s.presentNext w).script = s.script := rfl
@[simp] theorem State.presentNext_asked (s : State) (w : CommandWord) : (s.presentNext w).asked = s.asked := rfl
@[simp] theorem State.presentNext_posted (s : State) (w : CommandWord) : (s.presentNext w).posted = s.posted := rfl
@[simp] theorem State.presentNext_trace (s : State) (w : CommandWord) : (s.presentNext w).trace = s.trace := rfl

end Sys2Proof.Machine
end

