-- ==== Sys2Proof/Laws/Ops.lean ====
section
/-! SUPPORT. What each shared operation can do, once: the environment's answers in the order they are
taken, each access, the two reads of a reload, a poll, and the ends of a command. -/

namespace Sys2Proof.Machine

/-! ### Events and answers in sequence -/

@[simp] theorem State.after_zero_nil (s : State) : s.after 0 [] = s := by
  simp [State.after]

@[simp] theorem State.after_after (s : State) (m n : Nat) (a b : List Event) :
    (s.after m a).after n b = s.after (m + n) (a ++ b) := by
  simp [State.after, Nat.add_comm, Nat.add_left_comm]

theorem State.consume_emit_eq_after (s : State) (e : Event) : s.consume.emit e = s.after 1 [e] := by
  simp [State.consume, State.emit, State.after]

theorem State.emit_eq_after (s : State) (e : Event) : s.emit e = s.after 0 [e] := by
  simp [State.emit, State.after]

theorem State.delay_eq_after (s : State) (ms : Nat) : s.delay ms = s.after 0 [.delay ms] :=
  s.emit_eq_after _

theorem State.log_eq_after (s : State) (item : LogItem) : s.log item = s.after 0 [.log item] :=
  s.emit_eq_after _

theorem State.nextReply_eq_iff (s : State) (r : Reply) : s.nextReply = r ↔ s.upcoming 1 = [r] := by
  unfold State.nextReply State.upcoming
  cases s.script <;> simp [repliesFrom]

@[simp] theorem State.upcoming_zero (s : State) : s.upcoming 0 = [] := by
  simp [State.upcoming, repliesFrom]

theorem State.upcoming_succ (s : State) (n : Nat) (evs : List Event) :
    s.upcoming (n + 1) = s.nextReply :: (s.after 1 evs).upcoming n := by
  unfold State.nextReply State.upcoming
  cases h : s.script <;> simp [repliesFrom, h]

/-- The first of the coming answers, and those after it once it has been taken. -/
theorem State.upcoming_cons (s : State) (n : Nat) (r : Reply) (rs : List Reply) (evs : List Event) :
    s.upcoming (n + 1) = r :: rs ↔ s.nextReply = r ∧ (s.after 1 evs).upcoming n = rs := by
  rw [s.upcoming_succ n evs]; simp

/-- The coming answers depend on the script and the count of answers alone. -/
theorem State.upcoming_congr {s t : State} (h : t.script = s.script) (k : t.asked = s.asked) (n : Nat) :
    t.upcoming n = s.upcoming n := by
  simp [State.upcoming, h, k]

theorem State.nextReply_congr {s t : State} (h : t.script = s.script) (k : t.asked = s.asked) :
    t.nextReply = s.nextReply := by
  simp [State.nextReply, h, k]

/-! ### One access -/

theorem apRead_ok {s : State} {off : Nat} {v : Word} (h : s.nextReply = .ok v) :
    apRead off s = .ok v (s.after 1 [.apRead 1 off (some v)]) := by
  simp [apRead, h, State.consume_emit_eq_after, apMdm]

theorem apRead_err {s : State} {off : Nat} (h : s.nextReply = .err) :
    apRead off s = .fail .regReadFailure (s.after 1 [.apRead 1 off none]) := by
  simp [apRead, h, State.consume_emit_eq_after, apMdm]

theorem apWriteControl_ok {s : State} {v x : Word} (h : s.nextReply = .ok x) :
    apWriteControl v s = .ok () (s.after 1 [.apWrite 1 4 v true]) := by
  simp [apWriteControl, h, State.consume_emit_eq_after, apMdm, offControl]

theorem apWriteControl_err {s : State} {v : Word} (h : s.nextReply = .err) :
    apWriteControl v s = .fail .regWriteFailure (s.after 1 [.apWrite 1 4 v false]) := by
  simp [apWriteControl, h, State.consume_emit_eq_after, apMdm, offControl]

theorem memRead_ok {s : State} {addr v : Word} (h : s.nextReply = .ok v) :
    memRead addr s = .ok v (s.after 1 [.memRead addr (some v)]) := by
  simp [memRead, h, State.consume_emit_eq_after]

theorem memRead_err {s : State} {addr : Word} (h : s.nextReply = .err) :
    memRead addr s = .fail .stepTransportFailure (s.after 1 [.memRead addr none]) := by
  simp [memRead, h, State.consume_emit_eq_after]

theorem memWrite_ok {s : State} {addr v x : Word} (h : s.nextReply = .ok x) :
    memWrite addr v s = .ok () ((s.after 1 [.memWrite addr v true]).post addr v) := by
  simp [memWrite, h, State.consume_emit_eq_after]

theorem memWrite_err {s : State} {addr v : Word} (h : s.nextReply = .err) :
    memWrite addr v s = .fail .stepTransportFailure (s.after 1 [.memWrite addr v false]) := by
  simp [memWrite, h, State.consume_emit_eq_after]

theorem memFlush_ok {s : State} {x : Word} (h : s.nextReply = .ok x) :
    memFlush s = .ok () (s.after 1 [.memFlush true]).deliverPosted := by
  simp [memFlush, h, State.consume_emit_eq_after]

theorem memFlush_err {s : State} (h : s.nextReply = .err) :
    memFlush s = .fail .stepTransportFailure (s.after 1 [.memFlush false]) := by
  simp [memFlush, h, State.consume_emit_eq_after]

theorem probeAttach_ok {s : State} {x : Word} (h : s.nextReply = .ok x) :
    probeAttach s = .ok () (s.after 1 [.probeAttach true]) := by
  simp [probeAttach, h, State.consume_emit_eq_after]

theorem probeAttach_err {s : State} (h : s.nextReply = .err) :
    probeAttach s = .fail .attachInitFailure (s.after 1 [.probeAttach false]) := by
  simp [probeAttach, h, State.consume_emit_eq_after]

theorem probeTargetReset_ok {s : State} {x : Word} (h : s.nextReply = .ok x) :
    probeTargetReset s = .ok () (s.after 1 [.probeTargetReset true]) := by
  simp [probeTargetReset, h, State.consume_emit_eq_after]

theorem probeTargetReset_err {s : State} (h : s.nextReply = .err) :
    probeTargetReset s = .fail .attachInitFailure (s.after 1 [.probeTargetReset false]) := by
  simp [probeTargetReset, h, State.consume_emit_eq_after]

/-! ### Composition -/

@[simp] theorem Ending.andThen_ok {α β : Type} (a : α) (s : State) (f : α → State → Ending β) :
    (Ending.ok a s).andThen f = f a s := rfl

@[simp] theorem Ending.andThen_fail {α β : Type} (c : Cause) (s : State) (f : α → State → Ending β) :
    (Ending.fail c s).andThen f = .fail c s := rfl

@[simp] theorem Ending.noData_ok (u : Unit) (s : State) : (Ending.ok u s).noData = .ok (0, 0) s := rfl

@[simp] theorem Ending.noData_fail (c : Cause) (s : State) : (Ending.fail c s).noData = .fail c s := rfl

@[simp] theorem Ending.discard_ok {α : Type} (a : α) (s : State) : (Ending.ok a s).discard = .ok () s := rfl

@[simp] theorem Ending.discard_fail {α : Type} (c : Cause) (s : State) :
    (Ending.fail c s : Ending α).discard = .fail c s := rfl

@[simp] theorem Ending.finish_ok (d0 d1 : Word) (s : State) :
    (Ending.ok (d0, d1) s).finish = s.succeed d0 d1 [] := rfl

@[simp] theorem Ending.finish_fail (c : Cause) (s : State) : (Ending.fail c s).finish = s.failWith c 0 := rfl

@[simp] theorem Ending.leaveStep_ok (n : Fin 12) (target : UnlockStep) (u : Unit) (s : State) :
    (Ending.ok u s).leaveStep n target = s.goTo target := rfl

@[simp] theorem Ending.leaveStep_fail (n : Fin 12) (target : UnlockStep) (c : Cause) (s : State) :
    (Ending.fail c s).leaveStep n target = failureExit n c s := rfl

@[simp] theorem session_some {s : State} {sn : Snapshot} (h : s.snap = some sn) : session s = .ok sn s := by
  simp [session, h]

@[simp] theorem session_none {s : State} (h : s.snap = none) : session s = .fail .noSession s := by
  simp [session, h]

/-! ### The two reads of a reload (R119) -/

theorem reload_ok {s : State} {st ct : Word} (h : s.upcoming 2 = [.ok st, .ok ct]) :
    reload s = .ok (st, ct) (s.after 2 [.apRead 1 0 (some st), .apRead 1 4 (some ct)]) := by
  obtain ⟨h1, h2⟩ := (s.upcoming_cons 1 _ _ [.apRead 1 0 (some st)]).1 h
  simp [reload, offStatus, offControl, apRead_ok h1, apRead_ok (((State.nextReply_eq_iff _ _).2 h2))]

theorem reload_err_status {s : State} (h : s.upcoming 1 = [.err]) :
    reload s = .fail .regReadFailure (s.after 1 [.apRead 1 0 none]) := by
  simp [reload, offStatus, apRead_err ((s.nextReply_eq_iff _).2 h)]

theorem reload_err_control {s : State} {st : Word} (h : s.upcoming 2 = [.ok st, .err]) :
    reload s = .fail .regReadFailure (s.after 2 [.apRead 1 0 (some st), .apRead 1 4 none]) := by
  obtain ⟨h1, h2⟩ := (s.upcoming_cons 1 _ _ [.apRead 1 0 (some st)]).1 h
  simp [reload, offStatus, offControl, apRead_ok h1, apRead_err (((State.nextReply_eq_iff _ _).2 h2))]

/-! ### A poll (R140) -/

theorem poll_ok {s : State} {v : Word} (h : s.nextReply = .ok v) :
    poll s = .ok (some v) ((s.after 1 [.apRead 1 0 (some v)]).loadStatus v).countPoll := by
  simp [poll, offStatus, apRead_ok h]

theorem poll_err_abort {s : State} (p : s.config.pollReadErrPolicy = .abort) (h : s.nextReply = .err) :
    poll s = .fail .regReadFailure (s.after 1 [.apRead 1 0 none]) := by
  simp [poll, offStatus, apRead_err h, p]

theorem poll_err_counted {s : State} (p : s.config.pollReadErrPolicy = .countAsAttempt)
    (h : s.nextReply = .err) : poll s = .ok none (s.after 1 [.apRead 1 0 none]).countPoll := by
  simp [poll, offStatus, apRead_err h, p]

end Sys2Proof.Machine
end

