-- ==== Sys2Proof/Laws/Frame.lean ====
section
/-! SUPPORT. What every part of a command can do, said once and composed: it extends the trace with
legal events, takes one answer per transaction, and leaves the rest of the state to its own rule. -/

namespace Sys2Proof.Machine

/-- `t` is `s` after the events `evs`, one answer taken for each transaction among them; of the rest of
the state only the snapshot, the poll counter and the posted writes may have changed, and a session that
existed exists. -/
structure Went (s t : State) (evs : List Event) : Prop where
  trace : t.trace = s.trace ++ evs
  asked : t.asked = s.asked + evs.countP Event.isTransaction
  script : t.script = s.script.drop (evs.countP Event.isTransaction)
  config : t.config = s.config
  inputs : t.inputs = s.inputs
  sidePorts : t.sidePorts = s.sidePorts
  stepReg : t.stepReg = s.stepReg
  cause : t.cause = s.cause
  failStep : t.failStep = s.failStep
  result : t.result = s.result
  session : s.snap.isSome = true → t.snap.isSome = true

/-- No event was answered `Err`. -/
def NoErr (evs : List Event) : Prop := ∀ e ∈ evs, e.isErr = false

/-- The last transaction was answered `Err`, and no other. -/
def LastErr (evs : List Event) : Prop :=
  ∃ before last, evs.filter Event.isTransaction = before ++ [last] ∧ last.isErr = true ∧ NoErr before

/-- What a part of a command started in `s` can have done when it ends: legal events only, and, where a
failed read ends a command at once (R140), an `Err` exactly where it fails with a transport cause. -/
def Ending.Follows {α : Type} (s : State) : Ending α → Prop
  | .ok _ t => ∃ evs, Went s t evs ∧ (∀ e ∈ evs, e.legal s.config = true) ∧
      (s.config.pollReadErrPolicy = .abort → NoErr evs)
  | .fail c t => ∃ evs, Went s t evs ∧ (∀ e ∈ evs, e.legal s.config = true) ∧ c.raised = true ∧ c ≠ .none ∧
      c ≠ .targetSecured ∧ (s.config.pollReadErrPolicy = .abort →
        (c.isTransport = true → LastErr evs) ∧ (c.isTransport = false → NoErr evs))

theorem Went.refl (s : State) : Went s s [] := by constructor <;> simp

theorem Went.trans {s t u : State} {a b : List Event} (h : Went s t a) (k : Went t u b) :
    Went s u (a ++ b) where
  trace := by simp [k.trace, h.trace]
  asked := by simp [k.asked, h.asked]; omega
  script := by simp [k.script, h.script]
  config := k.config.trans h.config
  inputs := k.inputs.trans h.inputs
  sidePorts := k.sidePorts.trans h.sidePorts
  stepReg := k.stepReg.trans h.stepReg
  cause := k.cause.trans h.cause
  failStep := k.failStep.trans h.failStep
  result := k.result.trans h.result
  session := fun q => k.session (h.session q)

theorem NoErr.append {a b : List Event} (h : NoErr a) (k : NoErr b) : NoErr (a ++ b) := by
  intro e he
  rcases List.mem_append.1 he with h' | h'
  · exact h e h'
  · exact k e h'

theorem NoErr.lastErr_append {a b : List Event} (h : NoErr a) (k : LastErr b) : LastErr (a ++ b) := by
  obtain ⟨before, last, hb, hl, hn⟩ := k
  exact ⟨a.filter Event.isTransaction ++ before, last, by simp [hb], hl,
    NoErr.append (fun e he => h e (List.mem_of_mem_filter he)) hn⟩

theorem legal_append {c : Config} {a b : List Event} (h : ∀ e ∈ a, e.legal c = true)
    (k : ∀ e ∈ b, e.legal c = true) : ∀ e ∈ a ++ b, e.legal c = true := by
  intro e he
  rcases List.mem_append.1 he with h' | h'
  · exact h e h'
  · exact k e h'

/-- A part that starts after some quiet events. -/
theorem Ending.Follows.of_went {α : Type} {s t : State} {evs : List Event} {e : Ending α}
    (w : Went s t evs) (l : ∀ x ∈ evs, x.legal s.config = true)
    (n : s.config.pollReadErrPolicy = .abort → NoErr evs) (h : e.Follows t) : e.Follows s := by
  cases e with
  | ok a u =>
    obtain ⟨evs', w', l', n'⟩ := h
    rw [w.config] at l' n'
    exact ⟨evs ++ evs', w.trans w', legal_append l l', fun p => (n p).append (n' p)⟩
  | fail c u =>
    obtain ⟨evs', w', l', hr, hc, hs, n'⟩ := h
    rw [w.config] at l' n'
    exact ⟨evs ++ evs', w.trans w', legal_append l l', hr, hc, hs,
      fun p => ⟨fun q => (n p).lastErr_append ((n' p).1 q), fun q => (n p).append ((n' p).2 q)⟩⟩

/-- Two parts in sequence. -/
theorem Ending.Follows.andThen {α β : Type} {s : State} {e : Ending α} {f : α → State → Ending β}
    (h : e.Follows s) (k : ∀ a t, (f a t).Follows t) : (e.andThen f).Follows s := by
  cases e with
  | fail c t => exact h
  | ok a t =>
    obtain ⟨evs, w, l, n⟩ := h
    exact (k a t).of_went w l n

/-- The end of a part, after some quiet changes of the state. -/
theorem Ending.Follows.ok {α : Type} {s t : State} {evs : List Event} {a : α} (w : Went s t evs)
    (l : ∀ x ∈ evs, x.legal s.config = true) (n : NoErr evs) : (Ending.ok a t).Follows s :=
  ⟨evs, w, l, fun _ => n⟩

/-- One transaction answered `Ok`. -/
theorem Ending.Follows.answered {α : Type} {s t : State} {e : Event} {a : α} (w : Went s t [e])
    (l : e.legal s.config = true) (n : e.isErr = false) : (Ending.ok a t).Follows s :=
  .ok w (by simpa using l) (by simpa [NoErr] using n)

/-- One transaction answered `Err`, and the failure it raises. -/
theorem Ending.Follows.raised {α : Type} {s t : State} {e : Event} {c : Cause} (w : Went s t [e])
    (l : e.legal s.config = true) (ht : e.isTransaction = true) (n : e.isErr = true)
    (hc : c.isTransport = true) : (Ending.fail c t : Ending α).Follows s := by
  refine ⟨[e], w, by simpa using l, ?_, ?_, ?_, fun _ => ⟨fun _ => ⟨[], e, by simp [ht], n, by simp [NoErr]⟩, by simp [hc]⟩⟩
  · cases c <;> simp_all [Cause.isTransport, Cause.raised]
  · rintro rfl; simp [Cause.isTransport] at hc
  · rintro rfl; simp [Cause.isTransport] at hc

/-- A failure that no transaction of this part raises. -/
theorem Ending.Follows.gaveUp {α : Type} {s : State} {c : Cause} (hr : c.raised = true) (hn : c ≠ .none)
    (hs : c ≠ .targetSecured) (hc : c.isTransport = false) : (Ending.fail c s : Ending α).Follows s :=
  ⟨[], Went.refl s, by simp, hr, hn, hs, fun _ => ⟨by simp [hc], fun _ => by simp [NoErr]⟩⟩

/-! ### The steps of quiet change -/

theorem went_log (s : State) (item : LogItem) : Went s (s.log item) [.log item] := by
  constructor <;> simp [Event.isTransaction]

theorem went_delay (s : State) (ms : Nat) : Went s (s.delay ms) [.delay ms] := by
  constructor <;> simp [Event.isTransaction]

theorem went_loadSnapshot (s : State) (st ct : Word) : Went s (s.loadSnapshot st ct) [] := by
  constructor <;> simp

theorem went_clearPolls (s : State) : Went s s.clearPolls [] := by constructor <;> simp

theorem went_countPoll (s : State) : Went s s.countPoll [] := by constructor <;> simp

theorem noErr_nil : NoErr [] := by simp [NoErr]

theorem noErr_log (item : LogItem) : NoErr [.log item] := by simp [NoErr, Event.isErr]

theorem noErr_delay (ms : Nat) : NoErr [.delay ms] := by simp [NoErr, Event.isErr]

/-! ### The accesses -/

theorem apRead_follows {off : Nat} (h : off = offStatus ∨ off = offControl ∨ off = offIdr) (s : State) :
    (apRead off s).Follows s := by
  cases hr : s.nextReply with
  | ok v =>
    rw [apRead_ok hr]
    exact .answered (e := .apRead 1 off (some v)) (by constructor <;> simp [Event.isTransaction])
      (by rcases h with h | h | h <;> simp [Event.legal, apMdm, h]) rfl
  | err =>
    rw [apRead_err hr]
    exact .raised (e := .apRead 1 off none) (by constructor <;> simp [Event.isTransaction])
      (by rcases h with h | h | h <;> simp [Event.legal, apMdm, h]) rfl rfl rfl

theorem apWriteControl_follows (v : Word) (s : State) : (apWriteControl v s).Follows s := by
  cases hr : s.nextReply with
  | ok x =>
    rw [apWriteControl_ok hr]
    exact .answered (e := .apWrite 1 4 v true) (by constructor <;> simp [Event.isTransaction]) (by simp [Event.legal, apMdm, offControl]) rfl
  | err =>
    rw [apWriteControl_err hr]
    exact .raised (e := .apWrite 1 4 v false) (by constructor <;> simp [Event.isTransaction]) (by simp [Event.legal, apMdm, offControl]) rfl rfl rfl

theorem memRead_follows (s : State) : (memRead s.config.dhcsrAddr s).Follows s := by
  cases hr : s.nextReply with
  | ok x =>
    rw [memRead_ok hr]
    exact .answered (e := .memRead s.config.dhcsrAddr (some x)) (by constructor <;> simp [Event.isTransaction]) (by simp [Event.legal]) rfl
  | err =>
    rw [memRead_err hr]
    exact .raised (e := .memRead s.config.dhcsrAddr none) (by constructor <;> simp [Event.isTransaction]) (by simp [Event.legal]) rfl rfl rfl

theorem memWrite_follows (s : State) : (memWrite s.config.dhcsrAddr s.config.dhcsrHaltWord s).Follows s := by
  cases hr : s.nextReply with
  | ok x =>
    rw [memWrite_ok hr]
    exact .answered (e := .memWrite s.config.dhcsrAddr s.config.dhcsrHaltWord true) (by constructor <;> simp [Event.isTransaction]) (by simp [Event.legal]) rfl
  | err =>
    rw [memWrite_err hr]
    exact .raised (e := .memWrite s.config.dhcsrAddr s.config.dhcsrHaltWord false) (by constructor <;> simp [Event.isTransaction]) (by simp [Event.legal]) rfl rfl rfl

theorem memFlush_follows (s : State) : (memFlush s).Follows s := by
  cases hr : s.nextReply with
  | ok x =>
    rw [memFlush_ok hr]
    exact .answered (e := .memFlush true) (by constructor <;> simp [Event.isTransaction]) (by simp [Event.legal]) rfl
  | err =>
    rw [memFlush_err hr]
    exact .raised (e := .memFlush false) (by constructor <;> simp [Event.isTransaction]) (by simp [Event.legal]) rfl rfl rfl

theorem probeAttach_follows (s : State) : (probeAttach s).Follows s := by
  cases hr : s.nextReply with
  | ok x =>
    rw [probeAttach_ok hr]
    exact .answered (e := .probeAttach true) (by constructor <;> simp [Event.isTransaction]) (by simp [Event.legal]) rfl
  | err =>
    rw [probeAttach_err hr]
    exact .raised (e := .probeAttach false) (by constructor <;> simp [Event.isTransaction]) (by simp [Event.legal]) rfl rfl rfl

theorem probeTargetReset_follows (s : State) : (probeTargetReset s).Follows s := by
  cases hr : s.nextReply with
  | ok x =>
    rw [probeTargetReset_ok hr]
    exact .answered (e := .probeTargetReset true) (by constructor <;> simp [Event.isTransaction]) (by simp [Event.legal]) rfl
  | err =>
    rw [probeTargetReset_err hr]
    exact .raised (e := .probeTargetReset false) (by constructor <;> simp [Event.isTransaction]) (by simp [Event.legal]) rfl rfl rfl

/-! ### The procedures -/

theorem session_follows (s : State) : (session s).Follows s := by
  cases h : s.snap with
  | some sn => rw [session_some h]; exact .ok (Went.refl s) (by simp) noErr_nil
  | none =>
    rw [session_none h]
    exact .gaveUp rfl (by decide) (by decide) rfl

theorem reload_follows (s : State) : (reload s).Follows s :=
  (apRead_follows (.inl rfl) s).andThen fun _ _ =>
    (apRead_follows (.inr (.inl rfl)) _).andThen fun _ _ => .ok (Went.refl _) (by simp) noErr_nil

theorem poll_follows (s : State) : (poll s).Follows s := by
  cases hr : s.nextReply with
  | ok v =>
    rw [poll_ok hr]
    exact .answered (e := .apRead 1 0 (some v)) (by constructor <;> simp [Event.isTransaction])
      (by simp [Event.legal, apMdm, offStatus]) rfl
  | err =>
    cases hp : s.config.pollReadErrPolicy with
    | abort =>
      rw [poll_err_abort hp hr]
      exact .raised (e := .apRead 1 0 none) (by constructor <;> simp [Event.isTransaction])
        (by simp [Event.legal, apMdm, offStatus]) rfl rfl rfl
    | countAsAttempt =>
      rw [poll_err_counted hp hr]
      exact ⟨[.apRead 1 0 none], by constructor <;> simp [Event.isTransaction],
        by simp [Event.legal, apMdm, offStatus], by simp [hp]⟩

theorem went_logSnapshot (s : State) (v : Bool) (st ct : Word) :
    Went s (s.logSnapshot v st ct) (if v then [.log (.snapshot st ct)] else []) := by
  cases v
  · exact Went.refl s
  · exact went_log s _

theorem readProc_follows (v : Bool) (s : State) : (readProc v s).Follows s :=
  (reload_follows s).andThen fun r t => by
    refine .ok ((went_loadSnapshot t r.1 r.2).trans (went_logSnapshot _ v r.1 r.2)) ?_ ?_ <;>
      cases v <;> simp [Event.legal, NoErr, Event.isErr]

theorem readIdrProc_follows (s : State) : (readIdrProc s).Follows s :=
  apRead_follows (.inr (.inr rfl)) s

theorem refreshProc_follows (v : Bool) (s : State) : (refreshProc v s).Follows s :=
  (session_follows s).andThen fun _ t => readProc_follows v t

theorem refreshAndReportProc_follows (label : Word) (s : State) : (refreshAndReportProc label s).Follows s :=
  (session_follows s).andThen fun _ t => (reload_follows t).andThen fun r u =>
    .ok (((went_log u _).trans (went_log _ _)).trans (went_loadSnapshot _ r.1 r.2))
      (by simp [Event.legal]) (by simp [NoErr, Event.isErr])

theorem writeControlRawProc_follows (value : Word) (s : State) : (writeControlRawProc value s).Follows s :=
  (session_follows s).andThen fun _ t => apWriteControl_follows value t

theorem writeControlBitSetProc_follows (mask : Word) (s : State) : (writeControlBitSetProc mask s).Follows s :=
  (session_follows s).andThen fun _ t => apWriteControl_follows _ t

theorem writeControlBitClearProc_follows (mask : Word) (s : State) :
    (writeControlBitClearProc mask s).Follows s :=
  (session_follows s).andThen fun _ t => apWriteControl_follows _ t

theorem clearResetRequestProc_follows (s : State) : (clearResetRequestProc s).Follows s :=
  writeControlBitClearProc_follows _ s

theorem resetLoop_follows (n : Nat) (s : State) : (resetLoop n s).Follows s := by
  induction n generalizing s with
  | zero => exact .gaveUp rfl (by decide) (by decide) rfl
  | succ n ih =>
    refine (poll_follows s).andThen fun polled t => ?_
    by_cases h : seesReset polled
    · simp only [h, if_true]
      exact .ok (Went.refl t) (by simp) noErr_nil
    · simp only [h]
      exact .of_went (went_delay t _) (by simp [Event.legal]) (fun _ => noErr_delay _) (ih _)

theorem waitResetAssertedProc_follows (s : State) : (waitResetAssertedProc s).Follows s :=
  (session_follows s).andThen fun _ t =>
    .of_went (went_clearPolls t) (by simp) (fun _ => noErr_nil)
      ((apWriteControl_follows _ _).andThen fun _ u => resetLoop_follows _ u)

theorem flashLoop_follows (n : Nat) (s : State) : (flashLoop n s).Follows s := by
  induction n generalizing s with
  | zero => exact .ok (Went.refl s) (by simp) noErr_nil
  | succ n ih =>
    refine (poll_follows s).andThen fun polled t => ?_
    by_cases h : seesFlashReady polled
    · simp only [h, if_true]
      exact .ok (Went.refl t) (by simp) noErr_nil
    · simp only [h]
      unfold State.flashDelay
      cases hd : t.config.flashPollDelayMs with
      | none => exact ih t
      | some ms => exact .of_went (went_delay t ms) (by simp [Event.legal, hd]) (fun _ => noErr_delay _) (ih _)

theorem quietRefresh_follows (s : State) : (quietRefresh s).Follows s :=
  (reload_follows s).andThen fun r t => .ok (went_loadSnapshot t r.1 r.2) (by simp) noErr_nil

theorem waitFlashReadyProc_follows (s : State) : (waitFlashReadyProc s).Follows s :=
  (session_follows s).andThen fun _ t =>
    .of_went (went_clearPolls t) (by simp) (fun _ => noErr_nil)
      ((quietRefresh_follows _).andThen fun _ u => (flashLoop_follows _ u).andThen fun seen w =>
        (quietRefresh_follows w).andThen fun _ x => by
          cases seen
          · exact .gaveUp rfl (by decide) (by decide) rfl
          · exact .ok (Went.refl x) (by simp) noErr_nil)

theorem went_logIdr (r : Word) (s : State) : Went s (s.logIdr r)
    (if r = idrExpected then [.log (.idrValue r)]
      else [.log (.idrValue r), .log (.idrWarning r idrExpected)]) := by
  unfold State.logIdr
  split
  · exact went_log s _
  · exact (went_log s _).trans (went_log _ _)

theorem haltProc_follows (s : State) : (haltProc s).Follows s :=
  (memRead_follows s).andThen fun before t => (memWrite_follows t).andThen fun _ u =>
    (memFlush_follows u).andThen fun _ w =>
      .of_went (went_delay w _) (by simp [Event.legal]) (fun _ => noErr_delay _)
        ((memRead_follows _).andThen fun _ x => .ok (went_log x _) (by simp [Event.legal]) (noErr_log _))

theorem releaseProc_follows (s : State) : (releaseProc s).Follows s :=
  (clearResetRequestProc_follows s).andThen fun _ t =>
    .of_went (went_delay t _) (by simp [Event.legal]) (fun _ => noErr_delay _)
      ((refreshProc_follows true _).andThen fun _ u => (memRead_follows u).andThen fun _ w =>
        .ok (went_log w _) (by simp [Event.legal]) (noErr_log _))

/-! ### A command issued on its own -/

theorem Ending.Follows.noData {s : State} {e : Ending Unit} (h : e.Follows s) : e.noData.Follows s :=
  h.andThen fun _ t => .ok (Went.refl t) (by simp) noErr_nil

theorem Ending.Follows.discard {α : Type} {s : State} {e : Ending α} (h : e.Follows s) :
    e.discard.Follows s :=
  h.andThen fun _ t => .ok (Went.refl t) (by simp) noErr_nil

end Sys2Proof.Machine
end

