-- ==== Sys2Proof/Laws/Keep.lean ====
section
/-! SUPPORT. What a part of a command keeps of the state (the snapshot, the poll counter, the posted
writes), how far it can count polls, and which causes it can raise. -/

namespace Sys2Proof.Machine

/-- The state a part of a command leaves, however it ends. -/
def Ending.state {α : Type} : Ending α → State
  | .ok _ s => s
  | .fail _ s => s

/-- A view of the state that issuing events and taking answers does not change. -/
def Unmoved {β : Type} (g : State → β) : Prop := ∀ (s : State) (n : Nat) (evs : List Event), g (s.after n evs) = g s

@[simp] theorem Ending.state_ok {α : Type} (a : α) (s : State) : (Ending.ok a s).state = s := rfl

@[simp] theorem Ending.state_fail {α : Type} (c : Cause) (s : State) : (Ending.fail c s : Ending α).state = s := rfl

theorem unmoved_snap : Unmoved State.snap := fun _ _ _ => rfl

theorem unmoved_pollCnt : Unmoved State.pollCnt := fun _ _ _ => rfl

theorem unmoved_posted : Unmoved State.posted := fun _ _ _ => rfl

/-- Parts in sequence keep what each of them keeps. -/
theorem Ending.keep_andThen {α β γ : Type} {g : State → γ} {s : State} {e : Ending α}
    {f : α → State → Ending β} (h : g e.state = g s) (k : ∀ a t, g (f a t).state = g t) :
    g (e.andThen f).state = g s := by
  cases e with
  | ok a t => exact (k a t).trans h
  | fail c t => exact h

variable {γ : Type} {g : State → γ}

theorem apRead_keep (hg : Unmoved g) (off : Nat) (s : State) : g (apRead off s).state = g s := by
  cases h : s.nextReply with
  | ok v => rw [apRead_ok h]; exact hg ..
  | err => rw [apRead_err h]; exact hg ..

theorem apWriteControl_keep (hg : Unmoved g) (v : Word) (s : State) :
    g (apWriteControl v s).state = g s := by
  cases h : s.nextReply with
  | ok x => rw [apWriteControl_ok h]; exact hg ..
  | err => rw [apWriteControl_err h]; exact hg ..

theorem memRead_keep (hg : Unmoved g) (addr : Word) (s : State) : g (memRead addr s).state = g s := by
  cases h : s.nextReply with
  | ok v => rw [memRead_ok h]; exact hg ..
  | err => rw [memRead_err h]; exact hg ..

theorem probeAttach_keep (hg : Unmoved g) (s : State) : g (probeAttach s).state = g s := by
  cases h : s.nextReply with
  | ok v => rw [probeAttach_ok h]; exact hg ..
  | err => rw [probeAttach_err h]; exact hg ..

theorem probeTargetReset_keep (hg : Unmoved g) (s : State) : g (probeTargetReset s).state = g s := by
  cases h : s.nextReply with
  | ok v => rw [probeTargetReset_ok h]; exact hg ..
  | err => rw [probeTargetReset_err h]; exact hg ..

theorem log_keep (hg : Unmoved g) (item : LogItem) (s : State) : g (s.log item) = g s := by
  rw [s.log_eq_after]; exact hg ..

theorem delay_keep (hg : Unmoved g) (ms : Nat) (s : State) : g (s.delay ms) = g s := by
  rw [s.delay_eq_after]; exact hg ..

theorem session_keep (s : State) : g (session s).state = g s := by
  unfold session
  cases s.snap <;> rfl

theorem reload_keep (hg : Unmoved g) (s : State) : g (reload s).state = g s :=
  Ending.keep_andThen (apRead_keep hg _ s) fun _ t =>
    Ending.keep_andThen (apRead_keep hg _ t) fun _ _ => rfl

theorem writeControlRawProc_keep (hg : Unmoved g) (value : Word) (s : State) :
    g (writeControlRawProc value s).state = g s :=
  Ending.keep_andThen (session_keep s) fun _ t => apWriteControl_keep hg _ t

theorem writeControlBitSetProc_keep (hg : Unmoved g) (mask : Word) (s : State) :
    g (writeControlBitSetProc mask s).state = g s :=
  Ending.keep_andThen (session_keep s) fun _ t => apWriteControl_keep hg _ t

theorem writeControlBitClearProc_keep (hg : Unmoved g) (mask : Word) (s : State) :
    g (writeControlBitClearProc mask s).state = g s :=
  Ending.keep_andThen (session_keep s) fun _ t => apWriteControl_keep hg _ t

theorem clearResetRequestProc_keep (hg : Unmoved g) (s : State) : g (clearResetRequestProc s).state = g s :=
  writeControlBitClearProc_keep hg _ s

theorem readIdrProc_keep (hg : Unmoved g) (s : State) : g (readIdrProc s).state = g s :=
  apRead_keep hg _ s

/-- A part that loads the snapshot keeps every other view. -/
theorem readProc_keep (hg : Unmoved g) (hl : ∀ s a b, g (State.loadSnapshot a b s) = g s) (v : Bool)
    (s : State) : g (readProc v s).state = g s :=
  Ending.keep_andThen (reload_keep hg s) fun r t => by
    cases v
    · exact hl ..
    · exact (log_keep hg _ _).trans (hl ..)

theorem refreshProc_keep (hg : Unmoved g) (hl : ∀ s a b, g (State.loadSnapshot a b s) = g s) (v : Bool)
    (s : State) : g (refreshProc v s).state = g s :=
  Ending.keep_andThen (session_keep s) fun _ t => readProc_keep hg hl v t

theorem refreshAndReportProc_keep (hg : Unmoved g) (hl : ∀ s a b, g (State.loadSnapshot a b s) = g s)
    (label : Word) (s : State) : g (refreshAndReportProc label s).state = g s :=
  Ending.keep_andThen (session_keep s) fun _ t =>
    Ending.keep_andThen (reload_keep hg t) fun _ u =>
      (hl ..).trans ((log_keep hg _ _).trans (log_keep hg _ u))

theorem quietRefresh_keep (hg : Unmoved g) (hl : ∀ s a b, g (State.loadSnapshot a b s) = g s) (s : State) :
    g (quietRefresh s).state = g s :=
  Ending.keep_andThen (reload_keep hg s) fun _ _ => hl ..

/-- A poll keeps what counting a poll and loading its value keep. -/
theorem poll_keep (hg : Unmoved g) (hv : ∀ s a, g (State.loadStatus a s) = g s)
    (hc : ∀ s, g (State.countPoll s) = g s) (s : State) : g (poll s).state = g s := by
  cases h : s.nextReply with
  | ok v => rw [poll_ok h]; exact (hc _).trans ((hv ..).trans (hg ..))
  | err =>
    cases p : s.config.pollReadErrPolicy with
    | abort => rw [poll_err_abort p h]; exact hg ..
    | countAsAttempt => rw [poll_err_counted p h]; exact (hc _).trans (hg ..)

theorem resetLoop_keep (hg : Unmoved g) (hv : ∀ s a, g (State.loadStatus a s) = g s)
    (hc : ∀ s, g (State.countPoll s) = g s) (n : Nat) (s : State) : g (resetLoop n s).state = g s := by
  induction n generalizing s with
  | zero => rfl
  | succ n ih =>
    refine Ending.keep_andThen (poll_keep hg hv hc s) fun polled t => ?_
    by_cases h : seesReset polled
    · simp [h]
    · simp only [h]
      exact (ih _).trans (delay_keep hg _ t)

theorem flashDelay_keep (hg : Unmoved g) (s : State) : g s.flashDelay = g s := by
  unfold State.flashDelay
  split
  · exact delay_keep hg _ s
  · rfl

theorem flashLoop_keep (hg : Unmoved g) (hv : ∀ s a, g (State.loadStatus a s) = g s)
    (hc : ∀ s, g (State.countPoll s) = g s) (n : Nat) (s : State) : g (flashLoop n s).state = g s := by
  induction n generalizing s with
  | zero => rfl
  | succ n ih =>
    refine Ending.keep_andThen (poll_keep hg hv hc s) fun polled t => ?_
    by_cases h : seesFlashReady polled
    · simp [h]
    · simp only [h]
      exact (ih _).trans (flashDelay_keep hg t)

theorem waitResetAssertedProc_posted (s : State) : (waitResetAssertedProc s).state.posted = s.posted :=
  Ending.keep_andThen (session_keep s) fun _ t =>
    Ending.keep_andThen (g := State.posted) (apWriteControl_keep unmoved_posted _ t.clearPolls) fun _ u =>
      resetLoop_keep unmoved_posted (fun _ _ => rfl) (fun _ => rfl) _ u

theorem waitFlashReadyProc_posted (s : State) : (waitFlashReadyProc s).state.posted = s.posted :=
  Ending.keep_andThen (session_keep s) fun _ t =>
    Ending.keep_andThen (g := State.posted)
      (quietRefresh_keep unmoved_posted (fun _ _ _ => rfl) t.clearPolls) fun _ u =>
      Ending.keep_andThen (flashLoop_keep unmoved_posted (fun _ _ => rfl) (fun _ => rfl) _ u) fun seen w =>
        Ending.keep_andThen (quietRefresh_keep unmoved_posted (fun _ _ _ => rfl) w) fun _ _ => by
          cases seen <;> rfl

theorem haltProc_pollCnt (s : State) : (haltProc s).state.pollCnt = s.pollCnt :=
  Ending.keep_andThen (memRead_keep unmoved_pollCnt _ s) fun _ t =>
    Ending.keep_andThen (g := State.pollCnt) (by
      cases h : t.nextReply with
      | ok v => rw [memWrite_ok h]; rfl
      | err => rw [memWrite_err h]; rfl) fun _ u =>
    Ending.keep_andThen (g := State.pollCnt) (by
      cases h : u.nextReply with
      | ok v => rw [memFlush_ok h]; rfl
      | err => rw [memFlush_err h]; rfl) fun _ w =>
    Ending.keep_andThen (g := State.pollCnt) (memRead_keep unmoved_pollCnt _ (w.delay _)) fun _ _ => rfl

theorem releaseProc_keep (hg : Unmoved g) (hl : ∀ s a b, g (State.loadSnapshot a b s) = g s) (s : State) :
    g (releaseProc s).state = g s :=
  Ending.keep_andThen (clearResetRequestProc_keep hg s) fun _ t =>
    Ending.keep_andThen ((refreshProc_keep hg hl true (t.delay _)).trans (delay_keep hg _ t)) fun _ u =>
      Ending.keep_andThen (memRead_keep hg _ u) fun _ w => log_keep hg _ w

/-! ### How far a part can count polls -/

theorem poll_pollCnt_le (s : State) : (poll s).state.pollCnt ≤ s.pollCnt + 1 := by
  cases h : s.nextReply with
  | ok v => simp [poll_ok h, State.after]
  | err =>
    cases p : s.config.pollReadErrPolicy with
    | abort => simp [poll_err_abort p h, State.after]
    | countAsAttempt => simp [poll_err_counted p h, State.after]

theorem resetLoop_pollCnt_le (n : Nat) (s : State) : (resetLoop n s).state.pollCnt ≤ s.pollCnt + n := by
  induction n generalizing s with
  | zero => simp [resetLoop]
  | succ n ih =>
    have hp := poll_pollCnt_le s
    unfold resetLoop
    cases h : poll s with
    | fail c t => rw [h] at hp; simpa using by simp at hp; omega
    | ok polled t =>
      rw [h] at hp
      simp only [Ending.andThen_ok, Ending.state_ok] at hp ⊢
      split
      · simp only [Ending.state_ok]; omega
      · have := ih (t.delay t.config.resetPollDelayMs)
        simp only [State.delay_pollCnt] at this
        omega

theorem flashDelay_pollCnt (s : State) : s.flashDelay.pollCnt = s.pollCnt := flashDelay_keep unmoved_pollCnt s

theorem flashLoop_pollCnt_le (n : Nat) (s : State) : (flashLoop n s).state.pollCnt ≤ s.pollCnt + n := by
  induction n generalizing s with
  | zero => simp [flashLoop]
  | succ n ih =>
    have hp := poll_pollCnt_le s
    unfold flashLoop
    cases h : poll s with
    | fail c t => rw [h] at hp; simpa using by simp at hp; omega
    | ok polled t =>
      rw [h] at hp
      simp only [Ending.andThen_ok, Ending.state_ok] at hp ⊢
      split
      · simp only [Ending.state_ok]; omega
      · have := ih t.flashDelay
        rw [flashDelay_pollCnt] at this
        omega

/-- A wait leaves the poll counter, when it is refused, or within its budget. -/
theorem waitResetAssertedProc_pollCnt (s : State) :
    (waitResetAssertedProc s).state.pollCnt ≤ s.pollCnt ∨
      (waitResetAssertedProc s).state.pollCnt ≤ max s.config.resetPollMax s.config.flashPollMax := by
  unfold waitResetAssertedProc
  cases hs : s.snap with
  | none => simp [session_none hs]
  | some sn =>
    rw [session_some hs, Ending.andThen_ok]
    have k := apWriteControl_keep unmoved_pollCnt maskSysResetRequest s.clearPolls
    have w := apWriteControl_follows maskSysResetRequest s.clearPolls
    cases h : apWriteControl maskSysResetRequest s.clearPolls with
    | fail c t => rw [h] at k; simp at k; simp [k]
    | ok u t =>
      rw [h] at k w
      obtain ⟨evs, w, -⟩ := w
      have b := resetLoop_pollCnt_le t.config.resetPollMax t
      have hc : t.config = s.config := w.config
      simp only [Ending.state_ok, State.clearPolls_pollCnt] at k
      rw [k, hc] at b
      simp only [Ending.andThen_ok, hc]
      exact .inr (by omega)

theorem waitFlashReadyProc_pollCnt (s : State) :
    (waitFlashReadyProc s).state.pollCnt ≤ s.pollCnt ∨
      (waitFlashReadyProc s).state.pollCnt ≤ max s.config.resetPollMax s.config.flashPollMax := by
  unfold waitFlashReadyProc
  cases hs : s.snap with
  | none => simp [session_none hs]
  | some sn =>
    rw [session_some hs, Ending.andThen_ok]
    have k := quietRefresh_keep (g := State.pollCnt) unmoved_pollCnt (fun _ _ _ => rfl) s.clearPolls
    have w := quietRefresh_follows s.clearPolls
    cases h : quietRefresh s.clearPolls with
    | fail c t => rw [h] at k; simp at k; simp [k]
    | ok u t =>
      rw [h] at k w
      obtain ⟨evs, w, -⟩ := w
      have b := flashLoop_pollCnt_le t.config.flashPollMax t
      have hc : t.config = s.config := w.config
      simp only [Ending.state_ok, State.clearPolls_pollCnt] at k
      rw [k, hc] at b
      simp only [Ending.andThen_ok, hc]
      rw [Ending.keep_andThen (g := State.pollCnt) rfl fun seen x =>
        Ending.keep_andThen (quietRefresh_keep unmoved_pollCnt (fun _ _ _ => rfl) x) fun _ y => by
          cases seen <;> rfl] 
      exact .inr (by omega)

/-! ### Which causes a part can raise -/

/-- A part that fails raises one of `causes`. -/
def Ending.CausesIn {α : Type} (causes : List Cause) : Ending α → Prop
  | .ok _ _ => True
  | .fail c _ => c ∈ causes

theorem Ending.CausesIn.mono {α : Type} {a b : List Cause} {e : Ending α} (h : e.CausesIn a)
    (hab : ∀ c ∈ a, c ∈ b) : e.CausesIn b := by
  cases e with
  | ok _ _ => trivial
  | fail c _ => exact hab c h

/-- Parts in sequence. -/
theorem Ending.CausesIn.andThenAny {α β : Type} {causes : List Cause} {e : Ending α}
    {f : α → State → Ending β} (h : e.CausesIn causes) (k : ∀ a t, (f a t).CausesIn causes) :
    (e.andThen f).CausesIn causes := by
  cases e with
  | fail c t => exact h
  | ok a t => exact k a t

theorem Ending.CausesIn.discard {α : Type} {causes : List Cause} {e : Ending α} (h : e.CausesIn causes) :
    e.discard.CausesIn causes :=
  h.andThenAny fun _ _ => trivial

/-- Parts in sequence in a session: the session outlives each of them. -/
theorem Ending.CausesIn.andThen {α β : Type} {causes : List Cause} {s : State} {e : Ending α}
    {f : α → State → Ending β} (h : e.CausesIn causes) (w : e.Follows s) (hs : s.snap.isSome = true)
    (k : ∀ a t, t.snap.isSome = true → (f a t).CausesIn causes) : (e.andThen f).CausesIn causes := by
  cases e with
  | fail c t => exact h
  | ok a t =>
    obtain ⟨evs, w, -⟩ := w
    exact k a t (w.session hs)

theorem Ending.CausesIn.noData {causes : List Cause} {e : Ending Unit} (h : e.CausesIn causes) :
    e.noData.CausesIn causes :=
  h.andThenAny fun _ _ => trivial

theorem session_causesIn {s : State} (hs : s.snap.isSome = true) (causes : List Cause) :
    (session s).CausesIn causes := by
  obtain ⟨sn, h⟩ := Option.isSome_iff_exists.1 hs
  rw [session_some h]
  trivial

theorem apRead_causesIn (off : Nat) (s : State) : (apRead off s).CausesIn [.regReadFailure] := by
  cases h : s.nextReply with
  | ok v => rw [apRead_ok h]; trivial
  | err => rw [apRead_err h]; simp [Ending.CausesIn]

theorem apWriteControl_causesIn (v : Word) (s : State) : (apWriteControl v s).CausesIn [.regWriteFailure] := by
  cases h : s.nextReply with
  | ok v => rw [apWriteControl_ok h]; trivial
  | err => rw [apWriteControl_err h]; simp [Ending.CausesIn]

theorem memRead_causesIn (addr : Word) (s : State) : (memRead addr s).CausesIn [.stepTransportFailure] := by
  cases h : s.nextReply with
  | ok v => rw [memRead_ok h]; trivial
  | err => rw [memRead_err h]; simp [Ending.CausesIn]

theorem memWrite_causesIn (addr v : Word) (s : State) :
    (memWrite addr v s).CausesIn [.stepTransportFailure] := by
  cases h : s.nextReply with
  | ok v => rw [memWrite_ok h]; trivial
  | err => rw [memWrite_err h]; simp [Ending.CausesIn]

theorem memFlush_causesIn (s : State) : (memFlush s).CausesIn [.stepTransportFailure] := by
  cases h : s.nextReply with
  | ok v => rw [memFlush_ok h]; trivial
  | err => rw [memFlush_err h]; simp [Ending.CausesIn]

theorem probeAttach_causesIn (s : State) : (probeAttach s).CausesIn [.attachInitFailure] := by
  cases h : s.nextReply with
  | ok v => rw [probeAttach_ok h]; trivial
  | err => rw [probeAttach_err h]; simp [Ending.CausesIn]

theorem probeTargetReset_causesIn (s : State) : (probeTargetReset s).CausesIn [.attachInitFailure] := by
  cases h : s.nextReply with
  | ok v => rw [probeTargetReset_ok h]; trivial
  | err => rw [probeTargetReset_err h]; simp [Ending.CausesIn]

theorem reload_causesIn (s : State) : (reload s).CausesIn [.regReadFailure] :=
  (apRead_causesIn offStatus s).andThenAny fun _ t => (apRead_causesIn offControl t).andThenAny
    fun _ _ => trivial

theorem readProc_causesIn (v : Bool) (s : State) : (readProc v s).CausesIn [.regReadFailure] :=
  (reload_causesIn s).andThenAny fun _ _ => trivial

theorem quietRefresh_causesIn (s : State) : (quietRefresh s).CausesIn [.regReadFailure] :=
  (reload_causesIn s).andThenAny fun _ _ => trivial

theorem poll_causesIn (s : State) : (poll s).CausesIn [.regReadFailure] := by
  cases h : s.nextReply with
  | ok v => rw [poll_ok h]; trivial
  | err =>
    cases p : s.config.pollReadErrPolicy with
    | abort => rw [poll_err_abort p h]; simp [Ending.CausesIn]
    | countAsAttempt => rw [poll_err_counted p h]; trivial

theorem resetLoop_causesIn (n : Nat) (s : State) :
    (resetLoop n s).CausesIn [.regReadFailure, .timeoutReset] := by
  induction n generalizing s with
  | zero => simp [resetLoop, Ending.CausesIn]
  | succ n ih =>
    refine ((poll_causesIn s).mono (by simp)).andThenAny fun polled t => ?_
    by_cases h : seesReset polled
    · simp [h, Ending.CausesIn]
    · simp only [h]
      exact ih _

theorem flashLoop_causesIn (n : Nat) (s : State) : (flashLoop n s).CausesIn [.regReadFailure] := by
  induction n generalizing s with
  | zero => trivial
  | succ n ih =>
    refine (poll_causesIn s).andThenAny fun polled t => ?_
    by_cases h : seesFlashReady polled
    · simp [h, Ending.CausesIn]
    · simp only [h]
      exact ih _

theorem refreshProc_causesIn {s : State} (hs : s.snap.isSome = true) (v : Bool) :
    (refreshProc v s).CausesIn [.regReadFailure] :=
  (session_causesIn hs _).andThen (session_follows s) hs fun _ t _ => readProc_causesIn v t

theorem refreshAndReportProc_causesIn {s : State} (hs : s.snap.isSome = true) (label : Word) :
    (refreshAndReportProc label s).CausesIn [.regReadFailure] :=
  (session_causesIn hs _).andThen (session_follows s) hs fun _ t ht =>
    (reload_causesIn t).andThen (reload_follows t) ht fun _ _ _ => trivial

theorem writeControlBitSetProc_causesIn {s : State} (hs : s.snap.isSome = true) (mask : Word) :
    (writeControlBitSetProc mask s).CausesIn [.regWriteFailure] :=
  (session_causesIn hs _).andThen (session_follows s) hs fun _ t _ => apWriteControl_causesIn _ t

theorem writeControlRawProc_causesIn {s : State} (hs : s.snap.isSome = true) (value : Word) :
    (writeControlRawProc value s).CausesIn [.regWriteFailure] :=
  (session_causesIn hs _).andThen (session_follows s) hs fun _ t _ => apWriteControl_causesIn _ t

theorem writeControlBitClearProc_causesIn {s : State} (hs : s.snap.isSome = true) (mask : Word) :
    (writeControlBitClearProc mask s).CausesIn [.regWriteFailure] :=
  (session_causesIn hs _).andThen (session_follows s) hs fun _ t _ => apWriteControl_causesIn _ t

theorem clearResetRequestProc_causesIn {s : State} (hs : s.snap.isSome = true) :
    (clearResetRequestProc s).CausesIn [.regWriteFailure] :=
  (session_causesIn hs _).andThen (session_follows s) hs fun _ t _ => apWriteControl_causesIn _ t

theorem waitResetAssertedProc_causesIn {s : State} (hs : s.snap.isSome = true) :
    (waitResetAssertedProc s).CausesIn (stepCauses 3) :=
  (session_causesIn hs _).andThen (session_follows s) hs fun _ t ht =>
    ((apWriteControl_causesIn _ t.clearPolls).mono (by simp [stepCauses])).andThen
      (apWriteControl_follows _ _) ht fun _ u _ => (resetLoop_causesIn _ u).mono (by simp [stepCauses])

theorem waitFlashReadyProc_causesIn {s : State} (hs : s.snap.isSome = true) :
    (waitFlashReadyProc s).CausesIn (stepCauses 5) :=
  (session_causesIn hs _).andThen (session_follows s) hs fun _ t ht =>
    ((quietRefresh_causesIn t.clearPolls).mono (by simp [stepCauses])).andThen
      (quietRefresh_follows _) ht fun _ u hu =>
        ((flashLoop_causesIn _ u).mono (by simp [stepCauses])).andThen (flashLoop_follows _ u) hu
          fun seen w hw => ((quietRefresh_causesIn w).mono (by simp [stepCauses])).andThen
            (quietRefresh_follows w) hw fun _ x _ => by cases seen <;> simp [Ending.CausesIn, stepCauses]

theorem haltProc_causesIn {s : State} (hs : s.snap.isSome = true) :
    (haltProc s).CausesIn [.stepTransportFailure] :=
  (memRead_causesIn _ s).andThen (memRead_follows s) hs fun _ t ht =>
    (memWrite_causesIn _ _ t).andThen (memWrite_follows t) ht fun _ u hu =>
      (memFlush_causesIn u).andThen (memFlush_follows u) hu fun _ w hw =>
        (memRead_causesIn _ _).andThen (memRead_follows (w.delay _)) hw fun _ _ _ => trivial

theorem releaseProc_causesIn {s : State} (hs : s.snap.isSome = true) :
    (releaseProc s).CausesIn (stepCauses 10) :=
  ((clearResetRequestProc_causesIn hs).mono (by simp [stepCauses])).andThen
    (clearResetRequestProc_follows s) hs fun _ t ht =>
      ((refreshProc_causesIn (s := t.delay _) ht true).mono (by simp [stepCauses])).andThen
        (refreshProc_follows true _) ht fun _ u hu =>
          ((memRead_causesIn _ u).mono (by simp [stepCauses])).andThen (memRead_follows u) hu
            fun _ _ _ => trivial

end Sys2Proof.Machine
end

