-- ==== Sys2Proof/Laws/Unlock.lean ====
section
/-! SUPPORT. How a command issued on its own ends, and how each step of `UNLOCK` ends: on to the next
step, or by its failure exit with a cause it can raise. -/

namespace Sys2Proof.Machine

/-- `t` is `s` after the events `evs`, all of them legal, one answer taken for each transaction among
them; the block's registers and the posted writes may have changed. -/
structure Ran (s t : State) (evs : List Event) : Prop where
  trace : t.trace = s.trace ++ evs
  asked : t.asked = s.asked + evs.countP Event.isTransaction
  script : t.script = s.script.drop (evs.countP Event.isTransaction)
  config : t.config = s.config
  inputs : t.inputs = s.inputs
  sidePorts : t.sidePorts = s.sidePorts
  legal : ∀ e ∈ evs, e.legal s.config = true

theorem Ran.refl (s : State) : Ran s s [] := by constructor <;> simp

theorem Ran.trans {s t u : State} {a b : List Event} (h : Ran s t a) (k : Ran t u b) : Ran s u (a ++ b) where
  trace := by simp [k.trace, h.trace]
  asked := by simp [k.asked, h.asked]; omega
  script := by simp [k.script, h.script]
  config := k.config.trans h.config
  inputs := k.inputs.trans h.inputs
  sidePorts := k.sidePorts.trans h.sidePorts
  legal := legal_append h.legal (by have := k.legal; rwa [h.config] at this)

/-- Where a failed read ends a command at once: the transport causes are those of a command whose last
transaction was answered `Err`, and otherwise none was (R185, R195). -/
def Precise (s : State) (c : Cause) (evs : List Event) : Prop :=
  s.config.pollReadErrPolicy = .abort →
    (c.isTransport = true → LastErr evs) ∧ (c.isTransport = false → NoErr evs)

/-! ### A command issued on its own -/

@[simp] theorem Ending.finish_snap (e : Ending (Word × Word)) : e.finish.snap = e.state.snap := by cases e <;> rfl
@[simp] theorem Ending.finish_stepReg (e : Ending (Word × Word)) : e.finish.stepReg = e.state.stepReg := by cases e <;> rfl
@[simp] theorem Ending.finish_pollCnt (e : Ending (Word × Word)) : e.finish.pollCnt = e.state.pollCnt := by cases e <;> rfl
@[simp] theorem Ending.finish_posted (e : Ending (Word × Word)) : e.finish.posted = e.state.posted := by cases e <;> rfl
@[simp] theorem Ending.noData_state (e : Ending Unit) : e.noData.state = e.state := by cases e <;> rfl
@[simp] theorem Ending.discard_state {α : Type} (e : Ending α) : e.discard.state = e.state := by cases e <;> rfl

/-- How a command issued on its own ends: with success, or with the cause its body raised; the step
register stays. -/
theorem standalone_ends {body : State → Ending (Word × Word)} {s : State}
    (h : (body s.accept).Follows s.accept) :
    ∃ evs, Ran s (standalone body s) evs ∧ (standalone body s).stepReg = s.stepReg ∧
      (standalone body s).failStep = 0 ∧ (standalone body s).cause.raised = true ∧
      Precise s (standalone body s).cause evs ∧
      ((∃ d0 d1, (standalone body s).cause = .none ∧
          (standalone body s).result = some ⟨true, .none, 0, d0, d1, []⟩) ∨
        ((standalone body s).cause ≠ .none ∧
          (standalone body s).result = some ⟨false, (standalone body s).cause, 0, 0, 0, []⟩)) := by
  unfold standalone
  cases e : body s.accept with
  | ok d t =>
    obtain ⟨d0, d1⟩ := d
    rw [e] at h
    obtain ⟨evs, w, l, n⟩ := h
    have hc : t.cause = .none := w.cause
    have hf : t.failStep = 0 := w.failStep
    exact ⟨evs, ⟨w.trace, w.asked, w.script, w.config, w.inputs, w.sidePorts, l⟩, w.stepReg, hf,
      by simp only [Ending.finish_ok, State.succeed_cause, hc]; rfl,
      fun p => ⟨fun q => (by simp only [Ending.finish_ok, State.succeed_cause, hc] at q; cases q), fun _ => n p⟩,
      .inl ⟨d0, d1, hc, by simp only [Ending.finish_ok, State.succeed, hc, hf]⟩⟩
  | fail c t =>
    rw [e] at h
    obtain ⟨evs, w, l, hr, hn, -, n⟩ := h
    exact ⟨evs, ⟨w.trace, w.asked, w.script, w.config, w.inputs, w.sidePorts, l⟩, w.stepReg, rfl, hr, n,
      .inr ⟨hn, rfl⟩⟩

/-! ### A step of `UNLOCK` -/

/-- How step `S<n>` ends: on to `target` with nothing recorded, or by the failure exit (R163). -/
def StepEnds (n : Fin 12) (target : UnlockStep) (s t : State) : Prop :=
  ∃ evs, Ran s t evs ∧
    ((t.stepReg = target ∧ t.cause = s.cause ∧ t.failStep = s.failStep ∧
        (target ≠ .done → s.snap.isSome = true → t.snap.isSome = true) ∧
        (s.config.pollReadErrPolicy = .abort → NoErr evs)) ∨
      (t.stepReg = .failed ∧ t.cause ∈ stepCauses n ∧ t.failStep = n ∧ t.snap = none ∧
        t.result = some ⟨false, t.cause, n, 0, 0, []⟩ ∧
        evs.getLast? = some (.log (.error t.cause n)) ∧ Precise s t.cause evs))

theorem LastErr.append_log {evs : List Event} (h : LastErr evs) (item : LogItem) : LastErr (evs ++ [.log item]) := by
  obtain ⟨before, last, hb, hl, hn⟩ := h
  exact ⟨before, last, by simp [hb, Event.isTransaction], hl, hn⟩

/-- The failure exit from a step whose body failed. -/
theorem failureExit_ends {s u : State} {evs : List Event} {c : Cause} {n : Fin 12} (target : UnlockStep)
    (w : Went s u evs) (l : ∀ e ∈ evs, e.legal s.config = true) (hc : c ∈ stepCauses n)
    (p : Precise s c evs) : StepEnds n target s (failureExit n c u) := by
  refine ⟨evs ++ [.log (.error c n)], ⟨?_, ?_, ?_, w.config, w.inputs, w.sidePorts, ?_⟩, .inr ⟨rfl, hc, rfl, rfl, rfl,
    by simp; rfl, fun a => ⟨fun b => ((p a).1 b).append_log _, fun b => ((p a).2 b).append (noErr_log _)⟩⟩⟩
  · simp [failureExit, State.failWith, State.dropSession, w.trace]
  · simp [failureExit, State.failWith, State.dropSession, w.asked, Event.isTransaction]
  · simp [failureExit, State.failWith, State.dropSession, w.script, Event.isTransaction]
  · exact legal_append l (by simp [Event.legal])

theorem leaveStep_ends {s : State} {e : Ending Unit} (n : Fin 12) (target : UnlockStep) (h : e.Follows s)
    (hc : e.CausesIn (stepCauses n)) : StepEnds n target s (e.leaveStep n target) := by
  cases e with
  | ok _ u =>
    obtain ⟨evs, w, l, k⟩ := h
    exact ⟨evs, ⟨w.trace, w.asked, w.script, w.config, w.inputs, w.sidePorts, l⟩,
      .inl ⟨rfl, w.cause, w.failStep, fun _ => w.session, k⟩⟩
  | fail c u =>
    obtain ⟨evs, w, l, -, -, -, k⟩ := h
    exact failureExit_ends target w l hc k

theorem unlockS1_ends (s : State) : StepEnds 1 .s2 s (unlockS1 s) :=
  leaveStep_ends 1 .s2 ((probeAttach_follows s).andThen fun _ t => probeTargetReset_follows t)
    (((probeAttach_causesIn s).andThenAny fun _ t => probeTargetReset_causesIn t).mono (by simp [stepCauses]))

theorem unlockS2_ends (s : State) : StepEnds 2 .s3 s (unlockS2 s) :=
  leaveStep_ends 2 .s3 (readProc_follows true s).discard
    ((readProc_causesIn true s).discard.mono (by simp [stepCauses]))

/-- Step `S2` makes the session, unless it fails. -/
theorem unlockS2_session (s : State) (h : (unlockS2 s).stepReg = .s3) : (unlockS2 s).snap.isSome = true := by
  unfold unlockS2 readProc at *
  cases e : reload s with
  | fail c t => rw [e] at h; cases h
  | ok r t => simp [Ending.discard, State.logSnapshot]

theorem unlockS3_ends {s : State} (hs : s.snap.isSome = true) : StepEnds 3 .s4 s (unlockS3 s) :=
  leaveStep_ends 3 .s4 (waitResetAssertedProc_follows s) (waitResetAssertedProc_causesIn hs)

theorem unlockS4_ends (s : State) : StepEnds 4 .s5 s (unlockS4 s) :=
  leaveStep_ends 4 .s5
    ((readIdrProc_follows s).andThen fun r t => .ok (went_logIdr r t)
      (by split <;> simp [Event.legal]) (by split <;> simp [NoErr, Event.isErr]))
    (((apRead_causesIn offIdr s).mono (by simp [stepCauses])).andThenAny fun _ _ => trivial)

theorem unlockS5_ends {s : State} (hs : s.snap.isSome = true) : StepEnds 5 .s6 s (unlockS5 s) :=
  leaveStep_ends 5 .s6 (waitFlashReadyProc_follows s) (waitFlashReadyProc_causesIn hs)

/-- Step `S6` ends like any step, or by the security exit (R157). -/
theorem unlockS6_ends {s : State} (hs : s.snap.isSome = true) :
    StepEnds 6 .s7 s (unlockS6 s) ∨
      ∃ evs, Ran s (unlockS6 s) evs ∧ (unlockS6 s).stepReg = .abortSecured ∧
        (unlockS6 s).cause = .targetSecured ∧ (unlockS6 s).failStep = 6 ∧ (unlockS6 s).snap = none ∧
        (unlockS6 s).result = some ⟨false, .targetSecured, 6, 0, 0, []⟩ ∧
        evs.getLast? = some (.log .securedGuidance) ∧
        (s.config.pollReadErrPolicy = .abort → NoErr evs) := by
  have h := refreshProc_follows true s
  have hc := (refreshProc_causesIn hs true).mono (b := stepCauses 6) (by simp [stepCauses])
  unfold unlockS6
  cases e : refreshProc true s with
  | fail c u =>
    rw [e] at h hc
    obtain ⟨evs, w, l, -, -, -, k⟩ := h
    exact .inl (failureExit_ends _ w l hc k)
  | ok r u =>
    rw [e] at h
    obtain ⟨evs, w, l, k⟩ := h
    cases q : (decodeStatus r.1).security with
    | false =>
      exact .inl ⟨evs, ⟨by simpa [q] using w.trace, by simpa [q] using w.asked, by simpa [q] using w.script,
        by simpa [q] using w.config, by simpa [q] using w.inputs, by simpa [q] using w.sidePorts, l⟩,
        .inl ⟨by simp [q], by simpa [q] using w.cause, by simpa [q] using w.failStep,
          fun _ => by simpa [q] using w.session, k⟩⟩
    | true =>
      refine .inr ⟨evs ++ [.log .securedGuidance], ⟨?_, ?_, ?_, ?_, ?_, ?_, ?_⟩, ?_, ?_, ?_, ?_, ?_, by simp,
        fun p => (k p).append (noErr_log _)⟩ <;>
      simp [q, securedExit, State.failWith, State.dropSession, w.trace, w.asked, w.script, w.config, w.inputs,
        w.sidePorts, Event.isTransaction]
      exact fun x hx => hx.elim (l x) (fun h => by simp [h, Event.legal])

theorem unlockS7_ends {s : State} (hs : s.snap.isSome = true) : StepEnds 7 .s8 s (unlockS7 s) :=
  leaveStep_ends 7 .s8
    ((writeControlBitSetProc_follows _ s).andThen fun _ t => (refreshAndReportProc_follows _ t).discard)
    (((writeControlBitSetProc_causesIn hs _).mono (by simp [stepCauses])).andThen
      (writeControlBitSetProc_follows _ s) hs fun _ _ ht =>
        (refreshAndReportProc_causesIn ht _).discard.mono (by simp [stepCauses]))

theorem unlockS8_ends {s : State} (hs : s.snap.isSome = true) : StepEnds 8 .s9 s (unlockS8 s) :=
  leaveStep_ends 8 .s9 (haltProc_follows s) ((haltProc_causesIn hs).mono (by simp [stepCauses]))

theorem unlockS9_ends {s : State} (hs : s.snap.isSome = true) : StepEnds 9 .s10 s (unlockS9 s) :=
  leaveStep_ends 9 .s10 (refreshProc_follows true s).discard
    ((refreshProc_causesIn hs true).discard.mono (by simp [stepCauses]))

theorem unlockS10_ends {s : State} (hs : s.snap.isSome = true) : StepEnds 10 .s11 s (unlockS10 s) :=
  leaveStep_ends 10 .s11 (releaseProc_follows s) (releaseProc_causesIn hs)

/-- Step `S11` ends with success or by its failure exit (R162). -/
theorem unlockS11_ends {s : State} (hs : s.snap.isSome = true) :
    StepEnds 11 .done s (unlockS11 s) ∧
      ((unlockS11 s).stepReg = .done → (unlockS11 s).snap = none ∧
        (unlockS11 s).result = some ⟨true, s.cause, s.failStep, 0, 0, []⟩) := by
  have h := refreshProc_follows true s
  have hc := (refreshProc_causesIn hs true).mono (b := stepCauses 11) (by simp [stepCauses])
  unfold unlockS11
  cases e : refreshProc true s with
  | fail c u =>
    rw [e] at h hc
    obtain ⟨evs, w, l, -, -, -, k⟩ := h
    exact ⟨failureExit_ends _ w l hc k, by simp [failureExit]⟩
  | ok r u =>
    rw [e] at h
    obtain ⟨evs, w, l, k⟩ := h
    exact ⟨⟨evs, ⟨w.trace, w.asked, w.script, w.config, w.inputs, w.sidePorts, l⟩,
      .inl ⟨rfl, w.cause, w.failStep, by simp, k⟩⟩, fun _ => ⟨rfl, by
        simp [successExit, State.succeed, State.dropSession, w.cause, w.failStep]⟩⟩

end Sys2Proof.Machine
end

