-- ==== Sys2Proof/Laws/Exec.lean ====
section
/-! SUPPORT. What each command is, as a whole: a pure function of its operands, a body run on its own,
or the steps of `UNLOCK`. -/

namespace Sys2Proof.Machine

theorem exec_read (v : Bool) (s : State) : exec (.read v) s = .next (standalone (readProc v) s) := by
  rw [exec, execRead]

theorem exec_readIdr (s : State) : exec .readIdr s =
    .next (standalone (fun s => (readIdrProc s).andThen fun r s => .ok (r, 0) s) s) := by
  rw [exec, execReadIdr]

theorem exec_refresh (v : Bool) (s : State) : exec (.refresh v) s = .next (standalone (refreshProc v) s) := by
  rw [exec, execRefresh]

theorem exec_refreshAndReport (label : Word) (s : State) :
    exec (.refreshAndReport label) s = .next (standalone (refreshAndReportProc label) s) := by
  rw [exec, execRefreshAndReport]

theorem exec_writeControlRaw (value : Word) (s : State) : exec (.writeControlRaw value) s =
    .next (standalone (fun s => (writeControlRawProc value s).noData) s) := by
  rw [exec, execWriteControlRaw]

theorem exec_writeControlBitSet (mask : Word) (s : State) : exec (.writeControlBitSet mask) s =
    .next (standalone (fun s => (writeControlBitSetProc mask s).noData) s) := by
  rw [exec, execWriteControlBitSet]

theorem exec_writeControlBitClear (mask : Word) (s : State) : exec (.writeControlBitClear mask) s =
    .next (standalone (fun s => (writeControlBitClearProc mask s).noData) s) := by
  rw [exec, execWriteControlBitClear]

theorem exec_clearResetRequest (s : State) : exec .clearResetRequest s =
    .next (standalone (fun s => (clearResetRequestProc s).noData) s) := by
  rw [exec, execClearResetRequest]

theorem exec_waitResetAsserted (s : State) : exec .waitResetAsserted s =
    .next (standalone (fun s => (waitResetAssertedProc s).noData) s) := by
  rw [exec, execWaitResetAsserted]

theorem exec_waitFlashReady (s : State) : exec .waitFlashReady s =
    .next (standalone (fun s => (waitFlashReadyProc s).noData) s) := by
  rw [exec, execWaitFlashReady]

theorem exec_unlock (s : State) : exec .unlock s = .next (unlockRun 11 (unlockStart s)) := by
  rw [exec, execUnlock]

/-- The commands that are pure functions of their operands (40_codec.md). -/
theorem exec_codec (i : Instr) (h : i = .diff ∨ (∃ v, i = .decodeStatus v) ∨ ∃ v, i = .decodeControl v)
    (s : State) : ∃ d0 d1 entries, exec i s =
      .next { s with cause := .none, failStep := 0, result := some ⟨true, .none, 0, d0, d1, entries⟩ } := by
  rcases h with rfl | ⟨v, rfl⟩ | ⟨v, rfl⟩
  · rw [exec, execDiff]; exact ⟨_, _, _, rfl⟩
  · rw [exec, execDecodeStatus]; exact ⟨_, _, _, rfl⟩
  · rw [exec, execDecodeControl]; exact ⟨_, _, _, rfl⟩

/-- The causes a command issued on its own can raise once it is not refused (R183, R184, R188, R189). -/
def standaloneCauses : List Cause := [.regReadFailure, .regWriteFailure, .timeoutReset, .timeoutFlashReady]

/-- What a body run on its own can do besides what `Follows` says: it leaves the posted writes, and, if
it does not poll, the poll counter; it counts at most as many polls as the budgets allow; it raises one
of `standaloneCauses`, or is refused at once for want of a session. -/
structure PlainBody (i : Instr) (body : State → Ending (Word × Word)) : Prop where
  follows : ∀ s, (body s).Follows s
  posted : ∀ s, (body s).state.posted = s.posted
  pollCnt : i ≠ .waitResetAsserted → i ≠ .waitFlashReady → ∀ s, (body s).state.pollCnt = s.pollCnt
  pollBound : ∀ s, (body s).state.pollCnt ≤ s.pollCnt ∨
    (body s).state.pollCnt ≤ max s.config.resetPollMax s.config.flashPollMax
  causes : ∀ s, needsSnapshot i = false ∨ s.snap.isSome = true → (body s).CausesIn standaloneCauses
  refused : needsSnapshot i = true → ∀ s, s.snap = none → body s = .fail .noSession s
  exec_eq : ∀ s, exec i s = .next (standalone body s)

/-- A body of a command that needs a session, from what holds in one. -/
theorem PlainBody.needing {i : Instr} {body : State → Ending (Word × Word)} {causes : List Cause}
    (hi : needsSnapshot i = true) (hc : ∀ c ∈ causes, c ∈ standaloneCauses)
    (follows : ∀ s, (body s).Follows s) (posted : ∀ s, (body s).state.posted = s.posted)
    (pollCnt : i ≠ .waitResetAsserted → i ≠ .waitFlashReady → ∀ s, (body s).state.pollCnt = s.pollCnt)
    (pollBound : ∀ s, (body s).state.pollCnt ≤ s.pollCnt ∨
      (body s).state.pollCnt ≤ max s.config.resetPollMax s.config.flashPollMax)
    (raises : ∀ s, s.snap.isSome = true → (body s).CausesIn causes)
    (refused : ∀ s, s.snap = none → body s = .fail .noSession s)
    (exec_eq : ∀ s, exec i s = .next (standalone body s)) : PlainBody i body :=
  ⟨follows, posted, pollCnt, pollBound,
    fun s h => (raises s (h.resolve_left (by simp [hi]))).mono hc, fun _ => refused, exec_eq⟩

/-- Every command is `UNLOCK`, a pure function, or a body run on its own. -/
theorem exec_kinds (i : Instr) : i = .unlock ∨ (i = .diff ∨ (∃ v, i = .decodeStatus v) ∨ ∃ v, i = .decodeControl v) ∨
    ∃ body, PlainBody i body := by
  have noData_keep {β : Type} (g : State → β) {e : Ending Unit} {s : State} (h : g e.state = g s) :
      g e.noData.state = g s := (congrArg g e.noData_state).trans h
  cases i with
  | decodeStatus v => exact .inr (.inl (.inr (.inl ⟨v, rfl⟩)))
  | decodeControl v => exact .inr (.inl (.inr (.inr ⟨v, rfl⟩)))
  | diff => exact .inr (.inl (.inl rfl))
  | unlock => exact .inl rfl
  | read v =>
    have k := readProc_keep unmoved_pollCnt (fun _ _ _ => rfl) v
    exact .inr (.inr ⟨_, readProc_follows v, readProc_keep unmoved_posted (fun _ _ _ => rfl) v,
      fun _ _ => k, fun s => .inl (k s).le, fun s _ => (readProc_causesIn v s).mono (by simp [standaloneCauses]),
      fun h => Bool.noConfusion h, exec_read v⟩)
  | readIdr =>
    have k (s : State) : ((readIdrProc s).andThen fun r s => .ok (r, (0 : Word)) s).state.pollCnt = s.pollCnt :=
      Ending.keep_andThen (readIdrProc_keep unmoved_pollCnt s) fun _ _ => rfl
    exact .inr (.inr ⟨_,
      fun s => (readIdrProc_follows s).andThen fun r t => .ok (Went.refl t) (by simp) noErr_nil,
      fun s => Ending.keep_andThen (readIdrProc_keep unmoved_posted s) fun _ _ => rfl,
      fun _ _ => k, fun s => .inl (k s).le,
      fun s _ => ((apRead_causesIn offIdr s).mono (by simp [standaloneCauses])).andThenAny fun _ _ => trivial,
      fun h => Bool.noConfusion h, exec_readIdr⟩)
  | writeControlBitSet m =>
    have k (s : State) := noData_keep State.pollCnt (writeControlBitSetProc_keep unmoved_pollCnt m s)
    exact .inr (.inr ⟨_, .needing rfl (by simp [standaloneCauses])
      (fun s => (writeControlBitSetProc_follows m s).noData)
      (fun s => noData_keep State.posted (writeControlBitSetProc_keep unmoved_posted m s)) (fun _ _ => k)
      (fun s => .inl (k s).le) (fun _ hs => (writeControlBitSetProc_causesIn hs m).noData)
      (fun s h => by simp [writeControlBitSetProc, session_none h]) (exec_writeControlBitSet m)⟩)
  | writeControlBitClear m =>
    have k (s : State) := noData_keep State.pollCnt (writeControlBitClearProc_keep unmoved_pollCnt m s)
    exact .inr (.inr ⟨_, .needing rfl (by simp [standaloneCauses])
      (fun s => (writeControlBitClearProc_follows m s).noData)
      (fun s => noData_keep State.posted (writeControlBitClearProc_keep unmoved_posted m s)) (fun _ _ => k)
      (fun s => .inl (k s).le) (fun _ hs => (writeControlBitClearProc_causesIn hs m).noData)
      (fun s h => by simp [writeControlBitClearProc, session_none h]) (exec_writeControlBitClear m)⟩)
  | writeControlRaw v =>
    have k (s : State) := noData_keep State.pollCnt (writeControlRawProc_keep unmoved_pollCnt v s)
    exact .inr (.inr ⟨_, .needing rfl (by simp [standaloneCauses])
      (fun s => (writeControlRawProc_follows v s).noData)
      (fun s => noData_keep State.posted (writeControlRawProc_keep unmoved_posted v s)) (fun _ _ => k)
      (fun s => .inl (k s).le) (fun _ hs => (writeControlRawProc_causesIn hs v).noData)
      (fun s h => by simp [writeControlRawProc, session_none h]) (exec_writeControlRaw v)⟩)
  | refresh v =>
    have k := refreshProc_keep unmoved_pollCnt (fun _ _ _ => rfl) v
    exact .inr (.inr ⟨_, .needing rfl (by simp [standaloneCauses]) (refreshProc_follows v)
      (refreshProc_keep unmoved_posted (fun _ _ _ => rfl) v) (fun _ _ => k) (fun s => .inl (k s).le)
      (fun _ hs => refreshProc_causesIn hs v) (fun s h => by simp [refreshProc, session_none h])
      (exec_refresh v)⟩)
  | refreshAndReport l =>
    have k := refreshAndReportProc_keep unmoved_pollCnt (fun _ _ _ => rfl) l
    exact .inr (.inr ⟨_, .needing rfl (by simp [standaloneCauses]) (refreshAndReportProc_follows l)
      (refreshAndReportProc_keep unmoved_posted (fun _ _ _ => rfl) l) (fun _ _ => k)
      (fun s => .inl (k s).le) (fun _ hs => refreshAndReportProc_causesIn hs l)
      (fun s h => by simp [refreshAndReportProc, session_none h]) (exec_refreshAndReport l)⟩)
  | waitResetAsserted => exact .inr (.inr ⟨_, .needing rfl (by simp [standaloneCauses, stepCauses])
      (fun s => (waitResetAssertedProc_follows s).noData)
      (fun s => noData_keep State.posted (waitResetAssertedProc_posted s)) (fun h => absurd rfl h)
      (fun s => by rw [Ending.noData_state]; exact waitResetAssertedProc_pollCnt s)
      (fun _ hs => (waitResetAssertedProc_causesIn hs).noData)
      (fun s h => by simp [waitResetAssertedProc, session_none h]) exec_waitResetAsserted⟩)
  | clearResetRequest =>
    have k (s : State) := noData_keep State.pollCnt (clearResetRequestProc_keep unmoved_pollCnt s)
    exact .inr (.inr ⟨_, .needing rfl (by simp [standaloneCauses])
      (fun s => (clearResetRequestProc_follows s).noData)
      (fun s => noData_keep State.posted (clearResetRequestProc_keep unmoved_posted s)) (fun _ _ => k)
      (fun s => .inl (k s).le) (fun _ hs => (clearResetRequestProc_causesIn hs).noData)
      (fun s h => by simp [clearResetRequestProc, writeControlBitClearProc, session_none h])
      exec_clearResetRequest⟩)
  | waitFlashReady => exact .inr (.inr ⟨_, .needing rfl (by simp [standaloneCauses, stepCauses])
      (fun s => (waitFlashReadyProc_follows s).noData)
      (fun s => noData_keep State.posted (waitFlashReadyProc_posted s)) (fun _ h => absurd rfl h)
      (fun s => by rw [Ending.noData_state]; exact waitFlashReadyProc_pollCnt s)
      (fun _ hs => (waitFlashReadyProc_causesIn hs).noData)
      (fun s h => by simp [waitFlashReadyProc, session_none h]) exec_waitFlashReady⟩)

end Sys2Proof.Machine
end

