-- ==== Sys2Proof/Laws/Blind.lean ====
section
/-! SUPPORT. Changes of the state that no part of a command looks at: every part does the same before
and after such a change. -/

namespace Sys2Proof.Machine

/-- The ending with a change made to its state. -/
def Ending.map {α : Type} (F : State → State) : Ending α → Ending α
  | .ok a s => .ok a (F s)
  | .fail c s => .fail c (F s)

@[simp] theorem Ending.map_ok {α : Type} (F : State → State) (a : α) (s : State) :
    (Ending.ok a s).map F = .ok a (F s) := rfl

@[simp] theorem Ending.map_fail {α : Type} (F : State → State) (c : Cause) (s : State) :
    (Ending.fail c s : Ending α).map F = .fail c (F s) := rfl

/-- A change of the state that leaves what commands read, and commutes with what they write. -/
structure Blind (F : State → State) : Prop where
  reply : ∀ s, (F s).nextReply = s.nextReply
  snap : ∀ s, (F s).snap = s.snap
  config : ∀ s, (F s).config = s.config
  stepReg : ∀ s, (F s).stepReg = s.stepReg
  after : ∀ s n evs, F (s.after n evs) = (F s).after n evs
  loadSnapshot : ∀ s a b, F (State.loadSnapshot a b s) = State.loadSnapshot a b (F s)
  loadStatus : ∀ s a, F (State.loadStatus a s) = State.loadStatus a (F s)
  clearPolls : ∀ s, F (State.clearPolls s) = State.clearPolls (F s)
  countPoll : ∀ s, F (State.countPoll s) = State.countPoll (F s)
  post : ∀ s a v, F (State.post a v s) = State.post a v (F s)
  deliverPosted : ∀ s, F (State.deliverPosted s) = State.deliverPosted (F s)
  accept : ∀ s, F (State.accept s) = State.accept (F s)
  succeed : ∀ s a b es, F (State.succeed a b es s) = State.succeed a b es (F s)
  failWith : ∀ s c n, F (State.failWith c n s) = State.failWith c n (F s)
  dropSession : ∀ s, F (State.dropSession s) = State.dropSession (F s)
  goTo : ∀ s k, F (State.goTo k s) = State.goTo k (F s)
  unlockStart : ∀ s, F (Machine.unlockStart s) = Machine.unlockStart (F s)

/-- The side ports are no part of what a command other than `DIFF` reads (R91). -/
theorem blind_sidePorts (p : SidePorts) : Blind fun s => { s with sidePorts := p } := by
  constructor <;> intros <;> rfl

/-- The events issued before are no part of what a command reads (R30 (d), R61). -/
theorem blind_history (h : List Event) : Blind fun s => { s with trace := h ++ s.trace } := by
  constructor <;> intros <;> first | rfl | simp [State.after]

theorem Blind.log {F : State → State} (hF : Blind F) (item : LogItem) (s : State) :
    F (s.log item) = (F s).log item := by
  rw [State.log_eq_after, State.log_eq_after, hF.after]

theorem Blind.delay {F : State → State} (hF : Blind F) (ms : Nat) (s : State) :
    F (s.delay ms) = (F s).delay ms := by
  rw [State.delay_eq_after, State.delay_eq_after, hF.after]

theorem Ending.map_andThen {α β : Type} {F : State → State} {e e' : Ending α}
    {f : α → State → Ending β} (h : e' = e.map F) (k : ∀ a t, f a (F t) = (f a t).map F) :
    e'.andThen f = (e.andThen f).map F := by
  subst h
  cases e with
  | ok a t => exact k a t
  | fail c t => rfl

variable {F : State → State}

theorem apRead_blind (hF : Blind F) (off : Nat) (s : State) : apRead off (F s) = (apRead off s).map F := by
  have h' := hF.reply s
  cases h : s.nextReply with
  | ok v => rw [apRead_ok h, apRead_ok (h'.trans h), Ending.map_ok, hF.after]
  | err => rw [apRead_err h, apRead_err (h'.trans h), Ending.map_fail, hF.after]

theorem apWriteControl_blind (hF : Blind F) (v : Word) (s : State) :
    apWriteControl v (F s) = (apWriteControl v s).map F := by
  have h' := hF.reply s
  cases h : s.nextReply with
  | ok x => rw [apWriteControl_ok h, apWriteControl_ok (h'.trans h), Ending.map_ok, hF.after]
  | err => rw [apWriteControl_err h, apWriteControl_err (h'.trans h), Ending.map_fail, hF.after]

theorem memRead_blind (hF : Blind F) (addr : Word) (s : State) :
    memRead addr (F s) = (memRead addr s).map F := by
  have h' := hF.reply s
  cases h : s.nextReply with
  | ok x => rw [memRead_ok h, memRead_ok (h'.trans h), Ending.map_ok, hF.after]
  | err => rw [memRead_err h, memRead_err (h'.trans h), Ending.map_fail, hF.after]

theorem memWrite_blind (hF : Blind F) (addr v : Word) (s : State) :
    memWrite addr v (F s) = (memWrite addr v s).map F := by
  have h' := hF.reply s
  cases h : s.nextReply with
  | ok x => rw [memWrite_ok h, memWrite_ok (h'.trans h), Ending.map_ok, hF.post, hF.after]
  | err => rw [memWrite_err h, memWrite_err (h'.trans h), Ending.map_fail, hF.after]

theorem memFlush_blind (hF : Blind F) (s : State) : memFlush (F s) = (memFlush s).map F := by
  have h' := hF.reply s
  cases h : s.nextReply with
  | ok x => rw [memFlush_ok h, memFlush_ok (h'.trans h), Ending.map_ok, hF.deliverPosted, hF.after]
  | err => rw [memFlush_err h, memFlush_err (h'.trans h), Ending.map_fail, hF.after]

theorem probeAttach_blind (hF : Blind F) (s : State) : probeAttach (F s) = (probeAttach s).map F := by
  have h' := hF.reply s
  cases h : s.nextReply with
  | ok x => rw [probeAttach_ok h, probeAttach_ok (h'.trans h), Ending.map_ok, hF.after]
  | err => rw [probeAttach_err h, probeAttach_err (h'.trans h), Ending.map_fail, hF.after]

theorem probeTargetReset_blind (hF : Blind F) (s : State) :
    probeTargetReset (F s) = (probeTargetReset s).map F := by
  have h' := hF.reply s
  cases h : s.nextReply with
  | ok x => rw [probeTargetReset_ok h, probeTargetReset_ok (h'.trans h), Ending.map_ok, hF.after]
  | err => rw [probeTargetReset_err h, probeTargetReset_err (h'.trans h), Ending.map_fail, hF.after]

theorem session_blind (hF : Blind F) (s : State) : session (F s) = (session s).map F := by
  have h' := hF.snap s
  cases h : s.snap with
  | some sn => rw [session_some h, session_some (h'.trans h), Ending.map_ok]
  | none => rw [session_none h, session_none (h'.trans h), Ending.map_fail]

theorem reload_blind (hF : Blind F) (s : State) : reload (F s) = (reload s).map F :=
  Ending.map_andThen (apRead_blind hF _ s) fun _ t => Ending.map_andThen (apRead_blind hF _ t) fun _ _ => rfl

theorem poll_blind (hF : Blind F) (s : State) : poll (F s) = (poll s).map F := by
  have h' := hF.reply s
  have hc : (F s).config.pollReadErrPolicy = s.config.pollReadErrPolicy := by rw [hF.config]
  cases h : s.nextReply with
  | ok v => rw [poll_ok h, poll_ok (h'.trans h), Ending.map_ok, hF.countPoll, hF.loadStatus, hF.after]
  | err =>
    cases p : s.config.pollReadErrPolicy with
    | abort => rw [poll_err_abort p h, poll_err_abort (hc.trans p) (h'.trans h), Ending.map_fail, hF.after]
    | countAsAttempt =>
      rw [poll_err_counted p h, poll_err_counted (hc.trans p) (h'.trans h), Ending.map_ok, hF.countPoll, hF.after]

theorem readProc_blind (hF : Blind F) (v : Bool) (s : State) : readProc v (F s) = (readProc v s).map F :=
  Ending.map_andThen (reload_blind hF s) fun r t => by
    cases v
    · simp [State.logSnapshot, hF.loadSnapshot]
    · simp [State.logSnapshot, hF.loadSnapshot, hF.log]

theorem refreshProc_blind (hF : Blind F) (v : Bool) (s : State) :
    refreshProc v (F s) = (refreshProc v s).map F :=
  Ending.map_andThen (session_blind hF s) fun _ t => readProc_blind hF v t

theorem refreshAndReportProc_blind (hF : Blind F) (label : Word) (s : State) :
    refreshAndReportProc label (F s) = (refreshAndReportProc label s).map F :=
  Ending.map_andThen (session_blind hF s) fun _ t => Ending.map_andThen (reload_blind hF t) fun _ _ => by
    simp [hF.loadSnapshot, hF.log]

theorem writeControlRawProc_blind (hF : Blind F) (value : Word) (s : State) :
    writeControlRawProc value (F s) = (writeControlRawProc value s).map F :=
  Ending.map_andThen (session_blind hF s) fun _ t => apWriteControl_blind hF _ t

theorem writeControlBitSetProc_blind (hF : Blind F) (mask : Word) (s : State) :
    writeControlBitSetProc mask (F s) = (writeControlBitSetProc mask s).map F :=
  Ending.map_andThen (session_blind hF s) fun _ t => apWriteControl_blind hF _ t

theorem writeControlBitClearProc_blind (hF : Blind F) (mask : Word) (s : State) :
    writeControlBitClearProc mask (F s) = (writeControlBitClearProc mask s).map F :=
  Ending.map_andThen (session_blind hF s) fun _ t => apWriteControl_blind hF _ t

theorem clearResetRequestProc_blind (hF : Blind F) (s : State) :
    clearResetRequestProc (F s) = (clearResetRequestProc s).map F :=
  writeControlBitClearProc_blind hF _ s

theorem resetLoop_blind (hF : Blind F) (n : Nat) (s : State) : resetLoop n (F s) = (resetLoop n s).map F := by
  induction n generalizing s with
  | zero => rfl
  | succ n ih =>
    refine Ending.map_andThen (poll_blind hF s) fun polled t => ?_
    by_cases h : seesReset polled
    · simp [h]
    · simp only [h, Bool.false_eq_true, if_false]
      rw [hF.config, ← hF.delay, ih]

theorem waitResetAssertedProc_blind (hF : Blind F) (s : State) :
    waitResetAssertedProc (F s) = (waitResetAssertedProc s).map F :=
  Ending.map_andThen (session_blind hF s) fun _ t =>
    Ending.map_andThen (by rw [← hF.clearPolls]; exact apWriteControl_blind hF _ _) fun _ u => by
      rw [hF.config]; exact resetLoop_blind hF _ u

theorem flashDelay_blind (hF : Blind F) (s : State) : (F s).flashDelay = F s.flashDelay := by
  unfold State.flashDelay
  rw [hF.config]
  split
  · rw [hF.delay]
  · rfl

theorem flashLoop_blind (hF : Blind F) (n : Nat) (s : State) : flashLoop n (F s) = (flashLoop n s).map F := by
  induction n generalizing s with
  | zero => rfl
  | succ n ih =>
    refine Ending.map_andThen (poll_blind hF s) fun polled t => ?_
    by_cases h : seesFlashReady polled
    · simp [h]
    · simp only [h, Bool.false_eq_true, if_false]
      rw [flashDelay_blind hF, ih]

theorem quietRefresh_blind (hF : Blind F) (s : State) : quietRefresh (F s) = (quietRefresh s).map F :=
  Ending.map_andThen (reload_blind hF s) fun _ _ => by simp [hF.loadSnapshot]

theorem waitFlashReadyProc_blind (hF : Blind F) (s : State) :
    waitFlashReadyProc (F s) = (waitFlashReadyProc s).map F :=
  Ending.map_andThen (session_blind hF s) fun _ t =>
    Ending.map_andThen (by rw [← hF.clearPolls]; exact quietRefresh_blind hF _) fun _ u =>
      Ending.map_andThen (by rw [hF.config]; exact flashLoop_blind hF _ u) fun seen w =>
        Ending.map_andThen (quietRefresh_blind hF w) fun _ x => by cases seen <;> rfl

theorem haltProc_blind (hF : Blind F) (s : State) : haltProc (F s) = (haltProc s).map F :=
  Ending.map_andThen (by rw [hF.config]; exact memRead_blind hF _ s) fun _ t =>
    Ending.map_andThen (by rw [hF.config]; exact memWrite_blind hF _ _ t) fun _ u =>
      Ending.map_andThen (memFlush_blind hF u) fun _ w =>
        Ending.map_andThen (by rw [hF.config, ← hF.delay]; exact memRead_blind hF _ _) fun _ x => by
          simp [hF.log]

theorem releaseProc_blind (hF : Blind F) (s : State) : releaseProc (F s) = (releaseProc s).map F :=
  Ending.map_andThen (clearResetRequestProc_blind hF s) fun _ t =>
    Ending.map_andThen (by rw [hF.config, ← hF.delay]; exact refreshProc_blind hF true _) fun _ u =>
      Ending.map_andThen (by rw [hF.config]; exact memRead_blind hF _ u) fun _ x => by simp [hF.log]

/-! ### Ends and whole commands -/

theorem Ending.map_noData (e : Ending Unit) : (e.map F).noData = e.noData.map F := by cases e <;> rfl

theorem Ending.map_discard {α : Type} (e : Ending α) : (e.map F).discard = e.discard.map F := by cases e <;> rfl

theorem Ending.map_finish (hF : Blind F) (e : Ending (Word × Word)) : (e.map F).finish = F e.finish := by
  cases e with
  | ok d t => exact (hF.succeed t d.1 d.2 []).symm
  | fail c t => exact (hF.failWith t c 0).symm

theorem standalone_blind (hF : Blind F) {body : State → Ending (Word × Word)}
    (h : ∀ s, body (F s) = (body s).map F) (s : State) : standalone body (F s) = F (standalone body s) := by
  unfold standalone
  rw [← hF.accept, h, Ending.map_finish hF]

theorem failureExit_blind (hF : Blind F) (n : Fin 12) (c : Cause) (s : State) :
    failureExit n c (F s) = F (failureExit n c s) := by
  show State.goTo .failed (State.dropSession (State.failWith c n ((F s).log _))) =
    F (State.goTo .failed (State.dropSession (State.failWith c n (s.log _))))
  rw [hF.goTo, hF.dropSession, hF.failWith, hF.log]

theorem securedExit_blind (hF : Blind F) (s : State) : securedExit (F s) = F (securedExit s) := by
  show State.goTo .abortSecured (State.dropSession (State.failWith .targetSecured 6 ((F s).log _))) =
    F (State.goTo .abortSecured (State.dropSession (State.failWith .targetSecured 6 (s.log _))))
  rw [hF.goTo, hF.dropSession, hF.failWith, hF.log]

theorem successExit_blind (hF : Blind F) (s : State) : successExit (F s) = F (successExit s) := by
  show State.goTo .done (State.dropSession (State.succeed 0 0 [] (F s))) =
    F (State.goTo .done (State.dropSession (State.succeed 0 0 [] s)))
  rw [hF.goTo, hF.dropSession, hF.succeed]

theorem leaveStep_blind (hF : Blind F) {e e' : Ending Unit} (n : Fin 12) (k : UnlockStep) (h : e' = e.map F) :
    e'.leaveStep n k = F (e.leaveStep n k) := by
  subst h
  cases e with
  | ok _ t => exact (hF.goTo t k).symm
  | fail c t => exact failureExit_blind hF n c t

theorem logIdr_blind (hF : Blind F) (r : Word) (s : State) : (F s).logIdr r = F (s.logIdr r) := by
  unfold State.logIdr
  split <;> simp [hF.log]

theorem unlockAdvance_blind (hF : Blind F) (s : State) : unlockAdvance (F s) = F (unlockAdvance s) := by
  unfold unlockAdvance
  rw [hF.stepReg]
  cases s.stepReg <;> simp only
  case s1 =>
    exact leaveStep_blind hF _ _ (Ending.map_andThen (probeAttach_blind hF s) fun _ t => probeTargetReset_blind hF t)
  case s2 =>
    exact leaveStep_blind hF _ _ (by rw [readProc_blind hF, Ending.map_discard])
  case s3 => exact leaveStep_blind hF _ _ (waitResetAssertedProc_blind hF s)
  case s4 =>
    exact leaveStep_blind hF _ _ (Ending.map_andThen (apRead_blind hF _ s) fun r t => by simp [logIdr_blind hF])
  case s5 => exact leaveStep_blind hF _ _ (waitFlashReadyProc_blind hF s)
  case s6 =>
    unfold unlockS6
    rw [refreshProc_blind hF]
    cases refreshProc true s with
    | fail c t => exact failureExit_blind hF 6 c t
    | ok r t =>
      simp only [Ending.map_ok]
      split
      · exact securedExit_blind hF t
      · exact (hF.goTo t _).symm
  case s7 =>
    exact leaveStep_blind hF _ _ (Ending.map_andThen (writeControlBitSetProc_blind hF _ s) fun _ t => by
      rw [refreshAndReportProc_blind hF, Ending.map_discard])
  case s8 => exact leaveStep_blind hF _ _ (haltProc_blind hF s)
  case s9 => exact leaveStep_blind hF _ _ (by rw [refreshProc_blind hF, Ending.map_discard])
  case s10 => exact leaveStep_blind hF _ _ (releaseProc_blind hF s)
  case s11 =>
    unfold unlockS11
    rw [refreshProc_blind hF]
    cases refreshProc true s with
    | fail c t => exact failureExit_blind hF 11 c t
    | ok r t => exact successExit_blind hF t

theorem unlockRun_blind (hF : Blind F) (n : Nat) (s : State) : unlockRun n (F s) = F (unlockRun n s) := by
  induction n generalizing s with
  | zero => rfl
  | succ n ih => rw [unlockRun, unlockRun, unlockAdvance_blind hF, ih]

end Sys2Proof.Machine
end

