-- ==== Sys2Proof/Laws/Loops.lean ====
section
/-! SUPPORT. The answers of the environment in pieces, and the two polling loops run through a list of
polls that do not see the awaited bit. -/

namespace Sys2Proof.Machine

theorem repliesFrom_add (m n : Nat) (rs : List Reply) (k : Nat) :
    repliesFrom (m + n) rs k = repliesFrom m rs k ++ repliesFrom n (rs.drop m) (k + m) := by
  induction m generalizing rs k with
  | zero => simp [repliesFrom]
  | succ m ih =>
    rw [Nat.succ_add, show k + (m + 1) = k + 1 + m by omega]
    cases rs with
    | nil => simp [repliesFrom, ih]
    | cons r rs => simp [repliesFrom, ih]

/-- The coming answers, cut in two. -/
theorem State.upcoming_add (s : State) (m n : Nat) (evs : List Event) :
    s.upcoming (m + n) = s.upcoming m ++ (s.after m evs).upcoming n :=
  repliesFrom_add m n s.script s.asked

theorem repliesFrom_length (n : Nat) (rs : List Reply) (k : Nat) : (repliesFrom n rs k).length = n := by
  induction n generalizing rs k with
  | zero => rfl
  | succ n ih => cases rs <;> simp [repliesFrom, ih]

@[simp] theorem State.upcoming_length (s : State) (n : Nat) : (s.upcoming n).length = n :=
  repliesFrom_length n s.script s.asked

/-- If the coming answers are `as ++ bs`, the first ones are `as` and those after them `bs`. -/
theorem State.upcoming_append {s : State} {m n : Nat} {as bs : List Reply} (evs : List Event)
    (h : s.upcoming (m + n) = as ++ bs) (hm : as.length = m) :
    s.upcoming m = as ∧ (s.after m evs).upcoming n = bs := by
  rw [s.upcoming_add m n evs] at h
  exact List.append_inj h (by simp [hm])

/-- `s` after polls that read the words `vs`, with the events `evs`: each poll counted and loaded into the
Status half of the snapshot (R140). -/
def State.afterPolls (vs : List Word) (evs : List Event) (s : State) : State :=
  { s.after vs.length evs with
    snap := s.snap.map fun sn => ⟨vs.getLast?.getD sn.status, sn.control⟩
    pollCnt := s.pollCnt + vs.length }

@[simp] theorem State.afterPolls_nil (s : State) : s.afterPolls [] [] = s := by
  cases s with
  | mk snap => cases snap <;> simp [State.afterPolls, State.after]

theorem State.afterPolls_one (s : State) (v : Word) (evs : List Event) :
    ((s.after 1 evs).loadStatus v).countPoll = s.afterPolls [v] evs := by
  cases s with
  | mk snap => cases snap <;> simp [State.afterPolls, State.after, State.loadStatus, State.countPoll]

theorem State.afterPolls_afterPolls (s : State) (us vs : List Word) (a b : List Event) :
    (s.afterPolls us a).afterPolls vs b = s.afterPolls (us ++ vs) (a ++ b) := by
  cases s with
  | mk snap =>
    cases snap <;>
      simp [State.afterPolls, State.after, List.getLast?_append, Nat.add_assoc]

theorem State.afterPolls_after_zero (s : State) (vs : List Word) (a b : List Event) :
    (s.afterPolls vs a).after 0 b = s.afterPolls vs (a ++ b) := by
  cases s with
  | mk snap => cases snap <;> simp [State.afterPolls, State.after]

theorem State.afterPolls_upcoming (s : State) (vs : List Word) (evs : List Event) (n : Nat) :
    (s.afterPolls vs evs).upcoming n = (s.after vs.length evs).upcoming n := rfl

/-- The loop of `WAIT_RESET_ASSERTED` after polls that all read bit 3 as 1 (R141). -/
theorem resetLoop_polls (vs : List Word) (n : Nat) (s : State) (hv : ∀ v ∈ vs, v.getLsbD 3 = true)
    (h : s.upcoming vs.length = vs.map .ok) :
    resetLoop (vs.length + n) s =
      resetLoop n (s.afterPolls vs (delayedPolls s.config.resetPollDelayMs vs)) := by
  induction vs generalizing s with
  | nil => simp [delayedPolls]
  | cons v vs ih =>
    have hs : seesReset (some v) = false := by
      have := hv v (by simp)
      simpa [seesReset, decodeStatus] using this
    obtain ⟨h1, h2⟩ := (s.upcoming_cons vs.length _ _ [.apRead 1 0 (some v)]).1 h
    rw [List.length_cons, show vs.length + 1 + n = vs.length + n + 1 by omega, resetLoop, poll_ok h1]
    simp only [Ending.andThen_ok, hs, Bool.false_eq_true, if_false]
    rw [State.afterPolls_one, State.delay_eq_after, State.afterPolls_after_zero,
      ih (s.afterPolls [v] _) (fun w hw => hv w (by simp [hw])) h2, State.afterPolls_afterPolls]
    rfl

/-- The loop of `WAIT_FLASH_READY` after polls that all read bit 1 as 0 (R142). -/
theorem flashLoop_polls (vs : List Word) (n : Nat) (s : State) (hv : ∀ v ∈ vs, v.getLsbD 1 = false)
    (hd : s.config.flashPollDelayMs = none) (h : s.upcoming vs.length = vs.map .ok) :
    flashLoop (vs.length + n) s = flashLoop n (s.afterPolls vs (plainPolls vs)) := by
  induction vs generalizing s with
  | nil => simp [plainPolls]
  | cons v vs ih =>
    have hs : seesFlashReady (some v) = false := by
      have := hv v (by simp)
      simpa [seesFlashReady, decodeStatus] using this
    obtain ⟨h1, h2⟩ := (s.upcoming_cons vs.length _ _ [.apRead 1 0 (some v)]).1 h
    rw [List.length_cons, show vs.length + 1 + n = vs.length + n + 1 by omega, flashLoop, poll_ok h1]
    simp only [Ending.andThen_ok, hs, Bool.false_eq_true, if_false]
    have hf : ((s.after 1 [.apRead 1 0 (some v)]).loadStatus v).countPoll.flashDelay =
        ((s.after 1 [.apRead 1 0 (some v)]).loadStatus v).countPoll := by
      unfold State.flashDelay
      rw [show ((s.after 1 [Event.apRead 1 0 (some v)]).loadStatus v).countPoll.config.flashPollDelayMs = none from hd]
    rw [hf, State.afterPolls_one, ih (s.afterPolls [v] _) (fun w hw => hv w (by simp [hw])) hd h2,
      State.afterPolls_afterPolls]
    rfl

/-- A poll that reads bit 3 as 0 ends the loop (R141). -/
theorem resetLoop_seen {s : State} {n : Nat} {w : Word} (hw : w.getLsbD 3 = false) (hn : 0 < n)
    (h : s.nextReply = .ok w) : resetLoop n s = .ok () (s.afterPolls [w] [.apRead 1 0 (some w)]) := by
  obtain ⟨m, rfl⟩ := Nat.exists_eq_succ_of_ne_zero hn.ne'
  have hs : seesReset (some w) = true := by simpa [seesReset, decodeStatus] using hw
  rw [Nat.succ_eq_add_one, resetLoop, poll_ok h]
  simp [hs, State.afterPolls_one]

/-- A poll that reads bit 1 as 1 ends the loop (R142). -/
theorem flashLoop_seen {s : State} {n : Nat} {w : Word} (hw : w.getLsbD 1 = true) (hn : 0 < n)
    (h : s.nextReply = .ok w) : flashLoop n s = .ok true (s.afterPolls [w] [.apRead 1 0 (some w)]) := by
  obtain ⟨m, rfl⟩ := Nat.exists_eq_succ_of_ne_zero hn.ne'
  have hs : seesFlashReady (some w) = true := by simpa [seesFlashReady, decodeStatus] using hw
  rw [Nat.succ_eq_add_one, flashLoop, poll_ok h]
  simp [hs, State.afterPolls_one]

/-- A failed poll ends either loop where `POLL_READ_ERR_POLICY` has its default (R140, R183). -/
theorem resetLoop_err {s : State} {n : Nat} (p : s.config.pollReadErrPolicy = .abort) (hn : 0 < n)
    (h : s.nextReply = .err) : resetLoop n s = .fail .regReadFailure (s.after 1 [.apRead 1 0 none]) := by
  obtain ⟨m, rfl⟩ := Nat.exists_eq_succ_of_ne_zero hn.ne'
  rw [Nat.succ_eq_add_one, resetLoop, poll_err_abort p h]
  rfl

theorem flashLoop_err {s : State} {n : Nat} (p : s.config.pollReadErrPolicy = .abort) (hn : 0 < n)
    (h : s.nextReply = .err) : flashLoop n s = .fail .regReadFailure (s.after 1 [.apRead 1 0 none]) := by
  obtain ⟨m, rfl⟩ := Nat.exists_eq_succ_of_ne_zero hn.ne'
  rw [Nat.succ_eq_add_one, flashLoop, poll_err_abort p h]
  rfl

end Sys2Proof.Machine
end

