-- ==== Sys2Proof/Laws/PerInstr.lean ====
section
/-! SUPPORT. Statements made of every command, one lemma per constructor of Instr. -/

namespace Sys2Proof.Laws.RawWellFormed

/-- The fields of a command's word pass R94's checks: nothing it does not use is set. -/
def Statement (i : Instr) : Prop := (rawOf i).wellFormed = true

theorem decodeStatus (value : Word) : Statement (.decodeStatus value) := by
  simp [Statement, rawOf, RawCommand.wellFormed, RawCommand.defect, RawCommand.opDefined,
    RawCommand.zeroClear, RawCommand.verboseAllowed, RawCommand.argAllowed, RawCommand.usesArg]

theorem decodeControl (value : Word) : Statement (.decodeControl value) := by
  simp [Statement, rawOf, RawCommand.wellFormed, RawCommand.defect, RawCommand.opDefined,
    RawCommand.zeroClear, RawCommand.verboseAllowed, RawCommand.argAllowed, RawCommand.usesArg]

theorem diff : Statement .diff := rfl

theorem read (verbose : Bool) : Statement (.read verbose) := by cases verbose <;> rfl

theorem readIdr : Statement .readIdr := rfl

theorem writeControlBitSet (mask : Word) : Statement (.writeControlBitSet mask) := by
  simp [Statement, rawOf, RawCommand.wellFormed, RawCommand.defect, RawCommand.opDefined,
    RawCommand.zeroClear, RawCommand.verboseAllowed, RawCommand.argAllowed, RawCommand.usesArg]

theorem writeControlBitClear (mask : Word) : Statement (.writeControlBitClear mask) := by
  simp [Statement, rawOf, RawCommand.wellFormed, RawCommand.defect, RawCommand.opDefined,
    RawCommand.zeroClear, RawCommand.verboseAllowed, RawCommand.argAllowed, RawCommand.usesArg]

theorem writeControlRaw (value : Word) : Statement (.writeControlRaw value) := by
  simp [Statement, rawOf, RawCommand.wellFormed, RawCommand.defect, RawCommand.opDefined,
    RawCommand.zeroClear, RawCommand.verboseAllowed, RawCommand.argAllowed, RawCommand.usesArg]

theorem refresh (verbose : Bool) : Statement (.refresh verbose) := by cases verbose <;> rfl

theorem refreshAndReport (label : Word) : Statement (.refreshAndReport label) := by
  simp [Statement, rawOf, RawCommand.wellFormed, RawCommand.defect, RawCommand.opDefined,
    RawCommand.zeroClear, RawCommand.verboseAllowed, RawCommand.argAllowed, RawCommand.usesArg]

theorem waitResetAsserted : Statement .waitResetAsserted := rfl

theorem clearResetRequest : Statement .clearResetRequest := rfl

theorem waitFlashReady : Statement .waitFlashReady := rfl

theorem unlock : Statement .unlock := rfl

end Sys2Proof.Laws.RawWellFormed
end

