-- ==== Sys2Proof/Machine/Assembler.lean ====
section
/-! DEFINITION. The spelling of a command in the spec's examples and programs (30_encoding.md R96). -/

namespace Sys2Proof.Machine

/-- A hexadecimal digit, in capitals. -/
def hexDigit (d : Nat) : Char :=
  if d < 10 then Char.ofNat (48 + d) else Char.ofNat (55 + d)

/-- A word as `0x` and eight digits (R15). -/
def hexWord (w : Word) : String :=
  "0x" ++ String.ofList ([7, 6, 5, 4, 3, 2, 1, 0].map fun k => hexDigit (w.toNat / 16 ^ k % 16))

/-- A snapshot as the pair `(status,control)` (R96). -/
def pairText (sn : Snapshot) : String :=
  "(" ++ hexWord sn.status ++ "," ++ hexWord sn.control ++ ")"

/-- A label: its string in quotes where the spec gives one, else its token (R93, R96). -/
def labelOperand (token : Word) : String :=
  match labelText token with
  | some text => "\"" ++ text ++ "\""
  | none => hexWord token

/-- The mnemonic of a command (R92). -/
def mnemonicOf : Instr → String
  | .decodeStatus _ => "DECODE_STATUS"
  | .decodeControl _ => "DECODE_CONTROL"
  | .diff => "DIFF"
  | .read _ => "READ"
  | .readIdr => "READ_IDR"
  | .writeControlBitSet _ => "WRITE_CONTROL_BIT_SET"
  | .writeControlBitClear _ => "WRITE_CONTROL_BIT_CLEAR"
  | .writeControlRaw _ => "WRITE_CONTROL_RAW"
  | .refresh _ => "REFRESH"
  | .refreshAndReport _ => "REFRESH_AND_REPORT"
  | .waitResetAsserted => "WAIT_RESET_ASSERTED"
  | .clearResetRequest => "CLEAR_RESET_REQUEST"
  | .waitFlashReady => "WAIT_FLASH_READY"
  | .unlock => "UNLOCK"

/-- The operand of a command as it is written after the mnemonic (R96); `READ` and `REFRESH` show only
`v = 1`, and `DIFF` shows the side ports. -/
def operandText (i : Instr) (ports : SidePorts) : String :=
  match i with
  | .decodeStatus value => " " ++ hexWord value
  | .decodeControl value => " " ++ hexWord value
  | .diff => " old=" ++ pairText (oldOperand ports) ++ " new=" ++ pairText (newOperand ports)
  | .read verbose => if verbose then " v=1" else ""
  | .readIdr => ""
  | .writeControlBitSet mask => " " ++ hexWord mask
  | .writeControlBitClear mask => " " ++ hexWord mask
  | .writeControlRaw value => " " ++ hexWord value
  | .refresh verbose => if verbose then " v=1" else ""
  | .refreshAndReport label => " " ++ labelOperand label
  | .waitResetAsserted => ""
  | .clearResetRequest => ""
  | .waitFlashReady => ""
  | .unlock => ""

/-- One line of a program (R96). -/
def assemblyText (i : Instr) (ports : SidePorts) : String :=
  mnemonicOf i ++ operandText i ports

end Sys2Proof.Machine
end

