-- ==== Sys2Proof/Tests/Slice0.lean ====
section
/-! SUPPORT. The model's own tests, each on one step: words written out from 30_encoding.md R90 and R92,
the vectors of 95_test_vectors.md (V<n>), the checks of WellFormed, and for every statement with
hypotheses a state and operands that meet them. -/

namespace Sys2Proof.Tests

open Sys2Proof.Machine

/-- A state with a session (or none) in an environment that will answer as written. -/
def start (snap : Option Snapshot) (script : List Reply) : State :=
  { State.reset with snap := snap, script := script }

/-- The same with small budgets, so that a wait can run to its end. -/
def short (snap : Option Snapshot) (script : List Reply) : State :=
  { start snap script with config := { resetPollMax := 2, flashPollMax := 2 } }

/-- The same under the other value of `POLL_READ_ERR_POLICY`. -/
def counting (snap : Option Snapshot) (script : List Reply) : State :=
  { short snap script with config := { resetPollMax := 2, flashPollMax := 2, pollReadErrPolicy := .countAsAttempt } }

/-- A state in which a command word is presented. -/
def presented (word : CommandWord) (ports : SidePorts) (s : State) : State :=
  { s with inputs := [.command word ports] }

/-- The state an outcome goes to (every outcome of this machine is a next state). -/
def goesTo (s : State) : Host.Outcome State Fault Refusal → State
  | .next t => t
  | .fault _ => s
  | .refused _ => s

/-- The state a command leaves. -/
def left (i : Instr) (s : State) : State := goesTo s (exec i s)

/-- The state a presented word leaves. -/
def leftBy (word : CommandWord) (s : State) : State := goesTo s (step (presented word ⟨0, 0, 0, 0⟩ s))

/-- Every command goes to a next state: the one `left` names. -/
theorem exec_left (i : Instr) (s : State) : exec i s = .next (left i s) := by cases i <;> rfl

/-- What the result port shows: `ok`, `cause`, `fail_step`, `d0`, `d1`. -/
def shown (s : State) : Option (Bool × Nat × Nat × Word × Word) :=
  s.result.map fun r => (r.ok, (causeCode r.cause).toNat, r.failStep.val, r.d0, r.d1)

/-! ### Decoding: every constructor's word, from the fields of R90 and R92 -/

theorem test_decode_decodeStatus :
    decode 0b0000_0_000_01000000000000000000000000000011#40 = .ok (.decodeStatus 0x40000003#32) := by decide

theorem test_decode_decodeControl :
    decode 0b0001_0_000_00000000000000000000000000011111#40 = .ok (.decodeControl 0x1F#32) := by decide

theorem test_decode_diff :
    decode 0b0010_0_000_00000000000000000000000000000000#40 = .ok (.diff) := by decide

theorem test_decode_read :
    decode 0b0011_0_000_00000000000000000000000000000000#40 = .ok (.read false) := by decide

theorem test_decode_read_verbose :
    decode 0b0011_1_000_00000000000000000000000000000000#40 = .ok (.read true) := by decide

theorem test_decode_readIdr :
    decode 0b0100_0_000_00000000000000000000000000000000#40 = .ok (.readIdr) := by decide

theorem test_decode_writeControlBitSet :
    decode 0b0101_0_000_00000000000000000000000000000100#40 = .ok (.writeControlBitSet 0x4#32) := by decide

theorem test_decode_writeControlBitClear :
    decode 0b0110_0_000_10000000000000000000000000001000#40 = .ok (.writeControlBitClear 0x80000008#32) := by decide

theorem test_decode_writeControlRaw :
    decode 0b0111_0_000_11111111111111111111111111111111#40 = .ok (.writeControlRaw 0xFFFFFFFF#32) := by decide

theorem test_decode_refresh :
    decode 0b1000_0_000_00000000000000000000000000000000#40 = .ok (.refresh false) := by decide

theorem test_decode_refresh_verbose :
    decode 0b1000_1_000_00000000000000000000000000000000#40 = .ok (.refresh true) := by decide

theorem test_decode_refreshAndReport :
    decode 0b1001_0_000_00000000000000000000000000000001#40 = .ok (.refreshAndReport 0x1#32) := by decide

theorem test_decode_waitResetAsserted :
    decode 0b1010_0_000_00000000000000000000000000000000#40 = .ok (.waitResetAsserted) := by decide

theorem test_decode_clearResetRequest :
    decode 0b1011_0_000_00000000000000000000000000000000#40 = .ok (.clearResetRequest) := by decide

theorem test_decode_waitFlashReady :
    decode 0b1100_0_000_00000000000000000000000000000000#40 = .ok (.waitFlashReady) := by decide

theorem test_decode_unlock :
    decode 0b1101_0_000_00000000000000000000000000000000#40 = .ok (.unlock) := by decide

/-- V93: both reserved opcodes. -/
theorem test_reserved_op : decode 0xE000000000#40 = .error .reservedOp ∧
    decode 0xF000000000#40 = .error .reservedOp := by decide

/-- V94. -/
theorem test_zero_field : decode 0x3100000000#40 = .error .zeroField := by decide

/-- V95, V97. -/
theorem test_verbose_unused : decode 0x4800000000#40 = .error .verboseUnused ∧
    decode 0x0800000002#40 = .error .verboseUnused := by decide

/-- V96, V98. -/
theorem test_arg_unused : decode 0xD000000001#40 = .error .argUnused ∧
    decode 0x8000000001#40 = .error .argUnused := by decide

/-- The opcode table's numbering of a word's bits (log 15). -/
theorem test_table_word : decodeTableWord 40 0x5000000004 = some (.writeControlBitSet 0x4#32) := by decide

/-- R96: the spec's own spellings. -/
theorem test_assembly : assemblyText (.refreshAndReport 1) ⟨0, 0, 0, 0⟩ =
    "REFRESH_AND_REPORT \"DBG_REQ_BIT set\"" ∧
    assemblyText (.writeControlBitSet 0x4) ⟨0, 0, 0, 0⟩ = "WRITE_CONTROL_BIT_SET 0x00000004" := by
  decide +kernel

/-! ### WellFormed: an ill-formed term for each check -/

theorem test_wellFormed_op : RawCommand.wellFormed ⟨0xE#4, false, 0#3, 0#32⟩ = false := by decide
theorem test_wellFormed_zero : RawCommand.wellFormed ⟨0x3#4, false, 1#3, 0#32⟩ = false := by decide
theorem test_wellFormed_verbose : RawCommand.wellFormed ⟨0x4#4, true, 0#3, 0#32⟩ = false := by decide
theorem test_wellFormed_arg : RawCommand.wellFormed ⟨0xD#4, false, 0#3, 1#32⟩ = false := by decide
theorem test_wellFormed_good : RawCommand.wellFormed ⟨0x8#4, true, 0#3, 0#32⟩ = true := by decide
theorem test_config_misaligned : Config.wellFormed { dhcsrAddr := 0xE000EDF2#32 } = false := by decide
theorem test_config_flash_delay : Config.wellFormed { flashPollDelayMs := some 1 } = false := by decide
theorem test_config_default : Config.wellFormed {} = true := by decide

/-! ### The commands -/

/-- V15: mixed bytes. -/
theorem test_decodeStatus : shown (left (.decodeStatus 0x0001000A#32) State.reset) =
    some (true, 0, 0, 0x0001000A#32, 0x1A#32) := by decide

/-- V11, V14: the first ignored bits. -/
theorem test_decodeStatus_ignored : shown (left (.decodeStatus 0x01080000#32) State.reset) =
    some (true, 0, 0, 0x01080000#32, 0#32) := by decide

/-- V21. -/
theorem test_decodeControl : shown (left (.decodeControl 0x1F#32) State.reset) =
    some (true, 0, 0, 0x1F#32, 0x1F#32) := by decide

/-- V22. -/
theorem test_decodeControl_ignored : shown (left (.decodeControl 0xFFFFFFE0#32) State.reset) =
    some (true, 0, 0, 0xFFFFFFE0#32, 0#32) := by decide

/-- V32: both registers, entries in R112's order. -/
theorem test_diff : (left .diff { State.reset with sidePorts := ⟨0xA, 0x0, 0x2, 0x8⟩ }).result =
    some ⟨true, .none, 0, 0x2888, 0, [⟨.systemReset, 1, 0⟩, ⟨.statusValue, 0xA, 0x2⟩,
      ⟨.sysResetRequest, 0, 1⟩, ⟨.controlValue, 0x0, 0x8⟩]⟩ := by decide

/-- V33: only ignored bits differ. -/
theorem test_diff_ignored : shown (left .diff { State.reset with sidePorts := ⟨0x10, 0x20, 0x20, 0x40⟩ }) =
    some (true, 0, 0, 0x2080, 0) := by decide

/-- V61. -/
theorem test_read : (left (.read true) (start none [.ok 0x2, .ok 0x0])).trace =
    [.apRead 1 0x00 (some 0x2), .apRead 1 0x04 (some 0x0), .log (.snapshot 0x2 0x0)] := by decide

/-- V63: a failed Control read discards the Status value just read. -/
theorem test_read_fails : (left (.read false) (start (some ⟨0x2, 0x0⟩) [.ok 0xA, .err])).snap = some ⟨0x2, 0x0⟩ ∧
    shown (left (.read false) (start (some ⟨0x2, 0x0⟩) [.ok 0xA, .err])) = some (false, 4, 0, 0, 0) := by decide

/-- V65: no comparison in the command. -/
theorem test_readIdr : shown (left .readIdr (start none [.ok 0x001C0000])) =
    some (true, 0, 0, 0x001C0000, 0) := by decide

/-- V66. -/
theorem test_readIdr_fails : shown (left .readIdr (start none [.err])) = some (false, 4, 0, 0, 0) := by decide

/-- V67. -/
theorem test_refresh : (left (.refresh false) (start (some ⟨0x2, 0x0⟩) [.ok 0xA, .ok 0x8])).snap =
    some ⟨0xA, 0x8⟩ := by decide

/-- V90: no event before the refusal. -/
theorem test_refresh_refused : (left (.refresh true) (start none [.ok 0xA, .ok 0x8])).trace = [] ∧
    shown (left (.refresh true) (start none [.ok 0xA, .ok 0x8])) = some (false, 10, 0, 0, 0) := by decide

/-- V69. -/
theorem test_refreshAndReport :
    (left (.refreshAndReport 0x1) (start (some ⟨0x2, 0x8⟩) [.ok 0x2, .ok 0xC])).trace =
    [.apRead 1 0x00 (some 0x2), .apRead 1 0x04 (some 0xC), .log (.reason 0x1),
      .log (.diff [⟨.debugRequest, 0, 1⟩, ⟨.controlValue, 0x8, 0xC⟩])] := by decide

/-- V71: nothing logged. -/
theorem test_refreshAndReport_fails :
    (left (.refreshAndReport 0x1) (start (some ⟨0x2, 0x8⟩) [.ok 0x2, .err])).trace =
    [.apRead 1 0x00 (some 0x2), .apRead 1 0x04 none] := by decide

/-- V73: undecoded bits written as given. -/
theorem test_writeControlRaw : (left (.writeControlRaw 0xFFFFFFFF) (start (some ⟨0x2, 0x0⟩) [.ok 0])).trace =
    [.apWrite 1 0x04 0xFFFFFFFF true] := by decide

/-- V72: the Control half of the snapshot is not updated. -/
theorem test_writeControlRaw_snap :
    (left (.writeControlRaw 0x8) (start (some ⟨0x2, 0x0⟩) [.ok 0])).snap = some ⟨0x2, 0x0⟩ := by decide

/-- V77: the baseline is written back as cached. -/
theorem test_writeControlBitSet :
    (left (.writeControlBitSet 0x4) (start (some ⟨0x2, 0xABCDE008⟩) [.ok 0])).trace =
    [.apWrite 1 0x04 0xABCDE00C true] := by decide

/-- V85. -/
theorem test_writeControlBitSet_fails :
    shown (left (.writeControlBitSet 0x4) (start (some ⟨0x2, 0x8⟩) [.err])) = some (false, 5, 0, 0, 0) := by
  decide

/-- V79. -/
theorem test_writeControlBitClear :
    (left (.writeControlBitClear 0x8) (start (some ⟨0x2, 0xC⟩) [.ok 0])).trace =
    [.apWrite 1 0x04 0x4 true] := by decide

/-- V84. -/
theorem test_clearResetRequest :
    (left .clearResetRequest (start (some ⟨0x2, 0xFFFFFFFF⟩) [.ok 0])).trace =
    [.apWrite 1 0x04 0xFFFFFFF7 true] := by decide

/-- V41. -/
theorem test_waitResetAsserted :
    (left .waitResetAsserted (start (some ⟨0xA, 0x0⟩) [.ok 0, .ok 0xA, .ok 0xA, .ok 0x2])).trace =
    [.apWrite 1 0x04 0x8 true, .apRead 1 0x00 (some 0xA), .delay 1, .apRead 1 0x00 (some 0xA), .delay 1,
      .apRead 1 0x00 (some 0x2)] := by decide

/-- V47: a failed poll ends the command at once. -/
theorem test_waitResetAsserted_fails :
    (left .waitResetAsserted (start (some ⟨0xA, 0x0⟩) [.ok 0, .ok 0xA, .err])).pollCnt = 1 ∧
    shown (left .waitResetAsserted (start (some ⟨0xA, 0x0⟩) [.ok 0, .ok 0xA, .err])) =
      some (false, 4, 0, 0, 0) := by decide

/-- V52. -/
theorem test_waitFlashReady :
    (left .waitFlashReady (start (some ⟨0, 0⟩) [.ok 0, .ok 8, .ok 0, .ok 2, .ok 2, .ok 8])).trace =
    [.apRead 1 0x00 (some 0), .apRead 1 0x04 (some 8), .apRead 1 0x00 (some 0), .apRead 1 0x00 (some 2),
      .apRead 1 0x00 (some 2), .apRead 1 0x04 (some 8)] := by decide

/-- V55: a closing refresh that no longer sees the bit does not undo the success. -/
theorem test_waitFlashReady_closing :
    shown (left .waitFlashReady (start (some ⟨0, 0⟩) [.ok 0, .ok 8, .ok 2, .ok 0, .ok 8])) =
      some (true, 0, 0, 0, 0) := by decide

/-- V107. -/
theorem test_unlock_attach : (left .unlock (start none [.err])).trace =
    [.probeAttach false, .log (.error .attachInitFailure 1)] := by decide

/-- V102: Status 0x6 at every read, Control latched. -/
theorem test_unlock_secured :
    (left .unlock (start none ([0, 0, 6, 0, 0, 6, 0x001C0020, 6, 8, 6, 6, 8, 6, 8].map .ok))).stepReg =
      .abortSecured ∧
    shown (left .unlock (start none ([0, 0, 6, 0, 0, 6, 0x001C0020, 6, 8, 6, 6, 8, 6, 8].map .ok))) =
      some (false, 9, 6, 0, 0) := by decide

/-- V98: `BAD_COMMAND` is checked before `NO_SESSION`. -/
theorem test_bad_before_no_session : shown (leftBy 0x8000000001#40 State.reset) = some (false, 11, 0, 0, 0) := by
  decide

/-- V99: the next command clears an earlier failure. -/
theorem test_prologue : (leftBy 0x0000000000#40 { State.reset with cause := .timeoutFlashReady }).cause = .none := by
  decide

/-- R210: a block reset drops the session and issues nothing. -/
theorem test_block_reset : (goesTo State.reset (step { start (some ⟨1, 2⟩) [] with inputs := [.reset] })).snap = none := by
  decide

/-- The host's interface: the word placed is the one run. -/
theorem test_withFetchWord : shown (goesTo State.reset (step (State.reset.withFetchWord 40 0x1000000010))) =
    some (true, 0, 0, 0x10#32, 0x10#32) := by decide

/-! ### Every hypothesis can be met: one witness for each clause of each statement -/

theorem test_witness_EncodeOfDecode : ∃ (w : CommandWord) (i : Instr), decode w = .ok i := ⟨0xD000000000#40, .unlock, by decide⟩

theorem test_witness_DecodeRefusesIllFormed : illFormedWord 0xF000000000#40 ∧ ¬ illFormedWord 0xD000000000#40 := by unfold illFormedWord; decide

theorem test_witness_BlockResetTouchesNothingElse : ∃ (s : State) (rest : List HostInput), s.inputs = .reset :: rest := ⟨{ start (some ⟨1, 2⟩) [] with inputs := [.reset] }, [], rfl⟩

theorem test_witness_StepRunsDecodedCommand : ∃ (s : State) (w : CommandWord) (ports : SidePorts) (rest : List HostInput)
    (i : Instr), s.inputs = .command w ports :: rest ∧ decode w = .ok i := ⟨presented 0x2000000000#40 ⟨1, 2, 3, 4⟩ State.reset, 0x2000000000#40, ⟨1, 2, 3, 4⟩, [], .diff, rfl, by decide⟩

theorem test_witness_StepRestsWithoutInput : ∃ s : State, s.inputs = [] := ⟨State.reset, rfl⟩

theorem test_witness_IllFormedWordRefused : ∃ (s : State) (w : CommandWord) (ports : SidePorts) (rest : List HostInput),
    s.inputs = .command w ports :: rest ∧ illFormedWord w := ⟨presented 0x4800000000#40 ⟨0, 0, 0, 0⟩ State.reset, 0x4800000000#40, ⟨0, 0, 0, 0⟩, [], rfl,
    by unfold illFormedWord; decide⟩

theorem test_witness_CommandEndsInOneOfThreeWays : ∃ (s : State) (w : CommandWord) (ports : SidePorts) (rest : List HostInput),
    s.inputs = .command w ports :: rest := ⟨presented 0x3000000000#40 ⟨0, 0, 0, 0⟩ State.reset, 0x3000000000#40, ⟨0, 0, 0, 0⟩, [], rfl⟩

theorem test_witness_ViewsFollowSnapshot : (start (some ⟨3, 4⟩) []).snap = some ⟨3, 4⟩ ∧ (start none []).snap = none := by decide

theorem test_witness_FlagChangeShowsInValue : (∃ e ∈ diffEntries ⟨0x10002, 0⟩ ⟨0x2, 0x10⟩, fieldIndex e.field < 7) ∧
    (∃ e ∈ diffEntries ⟨0x10002, 0⟩ ⟨0x2, 0x10⟩, 8 ≤ fieldIndex e.field) := by decide

theorem test_witness_ReadCommand :
    ((start none [.ok 1, .ok 2]).upcoming 2 = [.ok 1, .ok 2]) ∧
    ((start none [.err]).upcoming 1 = [.err]) ∧
    ((start none [.ok 1, .err]).upcoming 2 = [.ok 1, .err]) := by
  repeat' apply And.intro
  all_goals first | (simp; done) | decide +kernel

theorem test_witness_ReadIdrCommand :
    ((start none [.ok 1]).upcoming 1 = [.ok 1]) ∧
    ((start none [.err]).upcoming 1 = [.err]) := by
  repeat' apply And.intro
  all_goals first | (simp; done) | decide +kernel

theorem test_witness_RefreshCommand :
    ((start (some ⟨2, 8⟩) [.ok 1, .ok 2]).upcoming 2 = [.ok 1, .ok 2] ∧ (start (some ⟨2, 8⟩) [.ok 1, .ok 2]).snap = some ⟨2, 8⟩) ∧
    ((start (some ⟨2, 8⟩) [.err]).upcoming 1 = [.err] ∧ (start (some ⟨2, 8⟩) [.err]).snap = some ⟨2, 8⟩) ∧
    ((start (some ⟨2, 8⟩) [.ok 1, .err]).upcoming 2 = [.ok 1, .err] ∧ (start (some ⟨2, 8⟩) [.ok 1, .err]).snap = some ⟨2, 8⟩) := by
  repeat' apply And.intro
  all_goals first | (simp; done) | decide +kernel

theorem test_witness_RefreshAndReportCommand :
    ((start (some ⟨2, 8⟩) [.ok 1, .ok 2]).upcoming 2 = [.ok 1, .ok 2] ∧ (start (some ⟨2, 8⟩) [.ok 1, .ok 2]).snap = some ⟨2, 8⟩) ∧
    ((start (some ⟨2, 8⟩) [.err]).upcoming 1 = [.err] ∧ (start (some ⟨2, 8⟩) [.err]).snap = some ⟨2, 8⟩) ∧
    ((start (some ⟨2, 8⟩) [.ok 1, .err]).upcoming 2 = [.ok 1, .err] ∧ (start (some ⟨2, 8⟩) [.ok 1, .err]).snap = some ⟨2, 8⟩) := by
  repeat' apply And.intro
  all_goals first | (simp; done) | decide +kernel

theorem test_witness_WriteControlRawCommand :
    ((start (some ⟨2, 8⟩) [.ok 1]).upcoming 1 = [.ok 1] ∧ (start (some ⟨2, 8⟩) [.ok 1]).snap = some ⟨2, 8⟩) ∧
    ((start (some ⟨2, 8⟩) [.err]).upcoming 1 = [.err] ∧ (start (some ⟨2, 8⟩) [.err]).snap = some ⟨2, 8⟩) := by
  repeat' apply And.intro
  all_goals first | (simp; done) | decide +kernel

theorem test_witness_WriteControlBitSetCommand :
    ((start (some ⟨2, 8⟩) [.ok 1]).upcoming 1 = [.ok 1] ∧ (start (some ⟨2, 8⟩) [.ok 1]).snap = some ⟨2, 8⟩) ∧
    ((start (some ⟨2, 8⟩) [.err]).upcoming 1 = [.err] ∧ (start (some ⟨2, 8⟩) [.err]).snap = some ⟨2, 8⟩) := by
  repeat' apply And.intro
  all_goals first | (simp; done) | decide +kernel

theorem test_witness_WriteControlBitClearCommand :
    ((start (some ⟨2, 8⟩) [.ok 1]).upcoming 1 = [.ok 1] ∧ (start (some ⟨2, 8⟩) [.ok 1]).snap = some ⟨2, 8⟩) ∧
    ((start (some ⟨2, 8⟩) [.err]).upcoming 1 = [.err] ∧ (start (some ⟨2, 8⟩) [.err]).snap = some ⟨2, 8⟩) := by
  repeat' apply And.intro
  all_goals first | (simp; done) | decide +kernel

theorem test_witness_ClearResetRequestCommand :
    ((start (some ⟨2, 8⟩) [.ok 1]).upcoming 1 = [.ok 1] ∧ (start (some ⟨2, 8⟩) [.ok 1]).snap = some ⟨2, 8⟩) ∧
    ((start (some ⟨2, 8⟩) [.err]).upcoming 1 = [.err] ∧ (start (some ⟨2, 8⟩) [.err]).snap = some ⟨2, 8⟩) := by
  repeat' apply And.intro
  all_goals first | (simp; done) | decide +kernel

/-- The refused clause of every command that needs a session. -/
theorem test_witness_NoSessionRefusal : (start none []).snap = none ∧ needsSnapshot .waitFlashReady = true ∧
    needsSnapshot (.refreshAndReport 7) = true := by decide

theorem test_witness_SetThenClear :
    ((start (some ⟨2, 8⟩) [.ok 1, .ok 2]).upcoming 2 = [.ok 1, .ok 2] ∧ (start (some ⟨2, 8⟩) [.ok 1, .ok 2]).snap = some ⟨2, 8⟩) := by
  repeat' apply And.intro
  all_goals first | (simp; done) | decide +kernel

theorem test_witness_LostUpdate :
    ((start (some ⟨2, 8⟩) [.ok 1, .ok 2]).upcoming 2 = [.ok 1, .ok 2] ∧ (start (some ⟨2, 8⟩) [.ok 1, .ok 2]).snap = some ⟨2, 8⟩) := by
  repeat' apply And.intro
  all_goals first | (simp; done) | decide +kernel

theorem test_witness_SnapshotKept : isWriteCommand .clearResetRequest = true ∧
    ∃ t, exec .clearResetRequest (start (some ⟨2, 8⟩) [.err]) = .next t := ⟨rfl, _, exec_left _ _⟩

theorem test_witness_PollLaw :
    ((start (some ⟨2, 8⟩) [.ok 1]).upcoming 1 = [.ok 1]) ∧
    ((short none [.err]).upcoming 1 = [.err] ∧ (short none [.err]).config.pollReadErrPolicy = .abort) ∧
    ((counting none [.err]).upcoming 1 = [.err] ∧ (counting none [.err]).config.pollReadErrPolicy = .countAsAttempt) := by
  repeat' apply And.intro
  all_goals first | (simp; done) | decide +kernel

/-- No unsuccessful poll, and one fewer than the budget; the whole budget; a failed write; a failed poll. -/
theorem test_witness_WaitResetAssertedCommand :
    ((short (some ⟨2, 8⟩) [.ok 0, .ok 2]).upcoming 2 = Reply.ok 0 :: (([] : List Word).map Reply.ok ++ [Reply.ok 2]) ∧ (short (some ⟨2, 8⟩) [.ok 0, .ok 2]).snap = some ⟨2, 8⟩ ∧ ([] : List Word).length < 2 ∧ (2#32).getLsbD 3 = false) ∧
    ((short (some ⟨2, 8⟩) [.ok 0, .ok 8, .ok 2]).upcoming 3 = Reply.ok 0 :: ([8#32].map Reply.ok ++ [Reply.ok 2]) ∧ (short (some ⟨2, 8⟩) [.ok 0, .ok 8, .ok 2]).snap = some ⟨2, 8⟩ ∧ [8#32].length < (short (some ⟨2, 8⟩) []).config.resetPollMax ∧
      (∀ v ∈ [8#32], v.getLsbD 3 = true)) ∧
    ((short (some ⟨2, 8⟩) [.ok 0, .ok 8, .ok 9]).upcoming 3 = Reply.ok 0 :: [8#32, 9#32].map Reply.ok ∧ (short (some ⟨2, 8⟩) [.ok 0, .ok 8, .ok 9]).snap = some ⟨2, 8⟩ ∧ [8#32, 9#32].length = (short (some ⟨2, 8⟩) []).config.resetPollMax ∧
      (∀ v ∈ [8#32, 9#32], v.getLsbD 3 = true)) ∧
    ((short (some ⟨2, 8⟩) [.err]).upcoming 1 = [.err] ∧ (short (some ⟨2, 8⟩) [.err]).snap = some ⟨2, 8⟩) ∧
    ((short (some ⟨2, 8⟩) [.ok 0, .ok 8, .err]).upcoming 3 = Reply.ok 0 :: ([8#32].map Reply.ok ++ [Reply.err]) ∧ (short (some ⟨2, 8⟩) [.ok 0, .ok 8, .err]).snap = some ⟨2, 8⟩ ∧
      (short (some ⟨2, 8⟩) []).config.pollReadErrPolicy = .abort) := by
  repeat' apply And.intro
  all_goals first | (simp; done) | decide +kernel

/-- No unsuccessful poll; one fewer than the budget; the whole budget. -/
theorem test_witness_WaitFlashReadyCommand :
    ((short (some ⟨2, 8⟩) [.ok 0, .ok 8, .ok 2, .ok 2, .ok 8]).upcoming 5 = [Reply.ok 0, Reply.ok 8] ++ ([] : List Word).map Reply.ok ++ [Reply.ok 2, Reply.ok 2, Reply.ok 8] ∧ (short (some ⟨2, 8⟩) []).config.flashPollDelayMs = none) ∧
    ((short (some ⟨2, 8⟩) [.ok 0, .ok 8, .ok 4, .ok 2, .ok 2, .ok 8]).upcoming 6 = [Reply.ok 0, Reply.ok 8] ++ [4#32].map Reply.ok ++ [Reply.ok 2, Reply.ok 2, Reply.ok 8] ∧ [4#32].length < (short (some ⟨2, 8⟩) []).config.flashPollMax ∧
      (∀ v ∈ [4#32], v.getLsbD 1 = false) ∧ (2#32).getLsbD 1 = true) ∧
    ((short (some ⟨2, 8⟩) [.ok 0, .ok 8, .ok 4, .ok 5, .ok 2, .ok 8]).upcoming 6 = [Reply.ok 0, Reply.ok 8] ++ [4#32, 5#32].map Reply.ok ++ [Reply.ok 2, Reply.ok 8] ∧ [4#32, 5#32].length = (short (some ⟨2, 8⟩) []).config.flashPollMax ∧
      (∀ v ∈ [4#32, 5#32], v.getLsbD 1 = false)) := by
  repeat' apply And.intro
  all_goals first | (simp; done) | decide +kernel

theorem test_witness_WaitFlashReadyReadFailure :
    ((short (some ⟨2, 8⟩) [.err]).upcoming 1 = [.err] ∧ (short (some ⟨2, 8⟩) []).config.flashPollDelayMs = none ∧ (short (some ⟨2, 8⟩) [.err]).snap = some ⟨2, 8⟩) ∧
    ((short (some ⟨2, 8⟩) [.ok 0, .ok 8, .ok 4, .err]).upcoming 4 = [Reply.ok 0, Reply.ok 8] ++ [4#32].map Reply.ok ++ [Reply.err] ∧ [4#32].length < (short (some ⟨2, 8⟩) []).config.flashPollMax ∧
      (short (some ⟨2, 8⟩) []).config.pollReadErrPolicy = .abort ∧ (∀ v ∈ [4#32], v.getLsbD 1 = false)) ∧
    ((short (some ⟨2, 8⟩) [.ok 0, .err]).upcoming 2 = [.ok 0, .err]) ∧
    ((short (some ⟨2, 8⟩) [.ok 0, .ok 8, .ok 4, .ok 5, .ok 6, .err]).upcoming 6 = [Reply.ok 0, Reply.ok 8] ++ [4#32, 5#32].map Reply.ok ++ [Reply.ok 6, Reply.err] ∧ [4#32, 5#32].length = (short (some ⟨2, 8⟩) []).config.flashPollMax) ∧
    ((short (some ⟨2, 8⟩) [.ok 0, .ok 8, .ok 4, .ok 2, .err]).upcoming 5 = [Reply.ok 0, Reply.ok 8] ++ [4#32].map Reply.ok ++ [Reply.ok 2, Reply.err] ∧ (2#32).getLsbD 1 = true) ∧
    ((short (some ⟨2, 8⟩) [.ok 0, .ok 8, .ok 4, .ok 2, .ok 6, .err]).upcoming 6 = [Reply.ok 0, Reply.ok 8] ++ [4#32].map Reply.ok ++ [Reply.ok 2, Reply.ok 6, Reply.err]) ∧
    ((short (some ⟨2, 8⟩) [.ok 0, .ok 8, .ok 4, .ok 5, .err]).upcoming 5 = [Reply.ok 0, Reply.ok 8] ++ [4#32, 5#32].map Reply.ok ++ [Reply.err] ∧ (∀ v ∈ [4#32, 5#32], v.getLsbD 1 = false)) := by
  repeat' apply And.intro
  all_goals first | (simp; done) | decide +kernel

theorem test_witness_WaitResetBounds : ∃ (s t : State) (sn : Snapshot), s.snap = some sn ∧
    exec .waitResetAsserted s = .next t ∧ s.config.pollReadErrPolicy = .abort := ⟨short (some ⟨2, 8⟩) [.ok 0, .ok 8, .err], _, ⟨2, 8⟩, rfl, exec_left _ _, rfl⟩

theorem test_witness_WaitFlashBounds : ∃ (s t : State) (sn : Snapshot), s.snap = some sn ∧
    s.config.flashPollDelayMs = none ∧ exec .waitFlashReady s = .next t ∧ t.cause = .none := ⟨short (some ⟨2, 8⟩) [.ok 0, .ok 8, .ok 2, .ok 2, .ok 8], left .waitFlashReady (short (some ⟨2, 8⟩) [.ok 0, .ok 8, .ok 2, .ok 2, .ok 8]),
    ⟨2, 8⟩, rfl, rfl, exec_left _ _, by decide +kernel⟩

/-- Answers that end both waits at the last poll of the short budgets. -/
def answers (status6 : Word) : UnlockAnswers where
  ackAttach := 0
  ackReset := 0
  status2 := 0xA
  control2 := 0
  ackWrite3 := 0
  resetPolls := [0xA]
  resetSeen := 0
  idr := 0x001C0000
  statusOpen := 0
  controlOpen := 8
  flashPolls := [0]
  flashSeen := 2
  statusClose := 2
  controlClose := 8
  status6 := status6
  control6 := 8
  ackWrite7 := 0
  status7 := 2
  control7 := 0xC
  dhcsrBefore := 0
  ackWrite8 := 0
  ackFlush := 0
  dhcsrAfter := 0x00030003
  status9 := 2
  control9 := 0xC
  ackWrite10 := 0
  status10 := 0xA
  control10 := 4
  dhcsrFinal := 0x00030003
  status11 := 0xA
  control11 := 4

theorem test_witness_UnlockSucceeds :
    (answers 2).waitsEnd (short none []).config ∧ (answers 2).status6.getLsbD 2 = false ∧
    (short none []).config.flashPollDelayMs = none ∧
    (short none ((answers 2).repliesToS6 ++ (answers 2).repliesFromS7)).upcoming
      ((answers 2).repliesToS6 ++ (answers 2).repliesFromS7).length =
      (answers 2).repliesToS6 ++ (answers 2).repliesFromS7 := by
  refine ⟨⟨by decide, by simp [answers], by decide, by decide, by simp [answers], by decide⟩, by decide, by decide, by decide +kernel⟩

/-- V105, V109: with those answers `UNLOCK` ends `DONE`, its three Control writes 0x8, 0xC and 0x4. -/
theorem test_unlock_done :
    ((left .unlock (short none ((answers 2).repliesToS6 ++ (answers 2).repliesFromS7))).trace.filter
      Event.isApWrite) = [.apWrite 1 4 0x8 true, .apWrite 1 4 0xC true, .apWrite 1 4 0x4 true] := by
  decide

theorem test_witness_UnlockSecuredAbort :
    (answers 6).waitsEnd (short none []).config ∧ (answers 6).status6.getLsbD 2 = true ∧
    (short none []).config.flashPollDelayMs = none ∧
    (short none (answers 6).repliesToS6).upcoming (answers 6).repliesToS6.length = (answers 6).repliesToS6 := by
  refine ⟨⟨by decide, by simp [answers], by decide, by decide, by simp [answers], by decide⟩, by decide, by decide, by decide +kernel⟩

theorem test_witness_UnlockAttachFailure :
    (start none [.err]).upcoming 1 = [.err] ∧ (start none [.ok 0, .err]).upcoming 2 = [.ok 0, .err] := by decide

theorem test_witness_UnlockBudget : ∃ s t : State, exec .unlock s = .next t ∧ t.stepReg = .done ∧
    s.config.flashPollDelayMs = none :=
  ⟨short none ((answers 2).repliesToS6 ++ (answers 2).repliesFromS7),
    left .unlock (short none ((answers 2).repliesToS6 ++ (answers 2).repliesFromS7)), exec_left _ _, by decide +kernel, rfl⟩

theorem test_witness_SecuredAbortNeverDebugs : ∃ s t : State, exec .unlock s = .next t ∧
    t.stepReg = .abortSecured :=
  ⟨short none (answers 6).repliesToS6, left .unlock (short none (answers 6).repliesToS6), exec_left _ _, by decide +kernel⟩

/-- Every value the step register can hold, with no cause recorded. -/
theorem test_witness_StepRegisterEdges (k : UnlockStep) :
    ∃ s : State, s.cause = .none ∧ s.stepReg = k := ⟨{ State.reset with stepReg := k }, rfl, rfl⟩

/-- The clauses on a reset of the block and on both sides of the branch of `S6`. -/
theorem test_witness_StepRegisterEdges_branches :
    (∃ (s : State) (rest : List HostInput), s.inputs = .reset :: rest ∧ s.stepReg = .failed) ∧
    (∃ s : State, s.cause = .none ∧ s.stepReg = .s6 ∧ s.snap.isSome = true ∧
      s.upcoming 2 = [.ok 2, .ok 8] ∧ (2#32).getLsbD 2 = false) ∧
    (∃ s : State, s.cause = .none ∧ s.stepReg = .s6 ∧ s.snap.isSome = true ∧
      s.upcoming 2 = [.ok 4, .ok 8] ∧ (4#32).getLsbD 2 = true) :=
  ⟨⟨{ State.reset with stepReg := .failed, inputs := [.reset] }, [], rfl, rfl⟩,
    ⟨{ start (some ⟨1, 2⟩) [.ok 2, .ok 8] with stepReg := .s6 }, rfl, rfl, rfl, rfl, by decide⟩,
    ⟨{ start (some ⟨1, 2⟩) [.ok 4, .ok 8] with stepReg := .s6 }, rfl, rfl, rfl, rfl, by decide⟩⟩

theorem test_witness_FailureIsPrecise : ∃ s t : State, s.config.pollReadErrPolicy = .abort ∧
    exec .readIdr s = .next t ∧ t.cause.isTransport = true :=
  ⟨start none [.err], left .readIdr (start none [.err]), rfl, exec_left _ _, by decide⟩

theorem test_witness_FailureIsPrecise_none : ∃ s t : State, s.config.pollReadErrPolicy = .abort ∧
    exec .readIdr s = .next t ∧ t.cause.isTransport = false :=
  ⟨start none [.ok 1], left .readIdr (start none [.ok 1]), rfl, exec_left _ _, by decide⟩

theorem test_witness_StandaloneKeepsStepRegister : ∃ s t : State, Instr.readIdr ≠ .unlock ∧
    exec .readIdr s = .next t := ⟨start none [.ok 1], _, by decide, exec_left _ _⟩

/-- The clauses: `UNLOCK`; a session kept; a session made by `READ`, and none made by a failed one. -/
theorem test_witness_SnapshotLifecycle :
    (∃ s t : State, exec .unlock s = .next t) ∧
    (∃ s t : State, s.snap.isSome = true ∧ exec .readIdr s = .next t) ∧
    (∃ s t : State, s.snap = none ∧ exec (.read true) s = .next t ∧ t.cause = .none ∧ t.snap.isSome = true) ∧
    (∃ s t : State, s.snap = none ∧ exec (.read true) s = .next t ∧ t.cause ≠ .none ∧ t.snap = none) :=
  ⟨⟨start none [.err], _, exec_left _ _⟩, ⟨start (some ⟨1, 2⟩) [.err], _, rfl, exec_left _ _⟩,
    ⟨start none [.ok 1, .ok 2], left (.read true) (start none [.ok 1, .ok 2]), rfl, exec_left _ _, by decide, by decide⟩,
    ⟨start none [.ok 1, .err], left (.read true) (start none [.ok 1, .err]), rfl, exec_left _ _, by decide, by decide⟩⟩

theorem test_witness_CommandFrame : ∃ s t : State, exec .waitResetAsserted s = .next t :=
  ⟨short (some ⟨2, 8⟩) [.ok 0, .ok 2], _, exec_left _ _⟩

theorem test_witness_SidePortsReadByDiffAlone : Instr.unlock ≠ .diff := by decide

theorem test_witness_FlushDeliversPosted :
    (start none [.ok 1]).upcoming 1 = [.ok 1] ∧ (start none [.err]).upcoming 1 = [.err] := by decide

/-- A state that meets the invariant and is not the reset state, and a step from it. -/
theorem test_witness_StepKeepsInv : ∃ s t : State, s.Inv ∧ s.snap.isSome = true ∧ step s = .next t :=
  ⟨presented 0x4000000000#40 ⟨1, 2, 3, 4⟩ (start (some ⟨2, 8⟩) [.ok 7]), _,
    ⟨by simp [presented, start, State.reset], by decide, by decide, by decide,
      ⟨by decide, by decide⟩, by decide⟩, by decide, rfl⟩

theorem test_witness_StepKeepsConfig : ∃ s t : State, step s = .next t := ⟨State.reset, State.reset, rfl⟩

end Sys2Proof.Tests
end

section
/-! SUPPORT. What a step takes from the host's inputs, what every command but `UNLOCK` can be, and how
a whole `UNLOCK` ends; each said once for the statements on the state. -/

namespace Sys2Proof.Machine

/-! ### The step by the host's next input -/

theorem step_of_no_input {s : State} (h : s.inputs = []) : step s = .next s := by
  rw [step, runInput, h]

theorem step_of_command {s : State} {w : CommandWord} {ports : SidePorts} {rest : List HostInput}
    (h : s.inputs = .command w ports :: rest) : step s = runWord w (s.present rest ports) := by
  rw [step, runInput, h]

theorem step_of_reset {s : State} {rest : List HostInput} (h : s.inputs = .reset :: rest) :
    step s = .next ({ s with inputs := rest } : State).blockReset := by
  rw [step, runInput, h]

theorem runWord_of_decode_ok {w : CommandWord} {i : Instr} (h : decode w = .ok i) (s : State) :
    runWord w s = exec i s := by
  rw [runWord, h]

theorem runWord_of_decode_error {w : CommandWord} {d : Defect} (h : decode w = .error d) (s : State) :
    runWord w s = .next s.refuseBadCommand := by
  rw [runWord, h]

/-- What a step can do: rest, reset the block, run a command, or refuse a word. -/
theorem step_cases {s t : State} (h : step s = .next t) :
    t = s ∨ (∃ rest, t = ({ s with inputs := rest } : State).blockReset) ∨
      (∃ i rest ports, exec i (s.present rest ports) = .next t) ∨
      ∃ rest ports, t = (s.present rest ports).refuseBadCommand := by
  rcases hin : s.inputs with _ | ⟨⟨w, ports⟩ | _, rest⟩
  · rw [step_of_no_input hin] at h
    exact .inl (Host.Outcome.next.inj h).symm
  · rw [step_of_command hin] at h
    rcases hd : decode w with d | i
    · rw [runWord_of_decode_error hd] at h
      exact .inr (.inr (.inr ⟨rest, ports, (Host.Outcome.next.inj h).symm⟩))
    · rw [runWord_of_decode_ok hd] at h
      exact .inr (.inr (.inl ⟨i, rest, ports, h⟩))
  · rw [step_of_reset hin] at h
    exact .inr (.inl ⟨rest, (Host.Outcome.next.inj h).symm⟩)

/-! ### Every command but `UNLOCK` -/

/-- `s` with the record a codec command leaves: the end of a success with these data and entries. -/
def State.codecDone (s : State) (d0 d1 : Word) (entries : List DiffEntry) : State :=
  { s with cause := .none, failStep := 0, result := some ⟨true, .none, 0, d0, d1, entries⟩ }

theorem ran_codecDone (s : State) (d0 d1 : Word) (entries : List DiffEntry) :
    Ran s (s.codecDone d0 d1 entries) [] := by
  constructor <;> simp [State.codecDone]

/-- A command other than `UNLOCK` is a codec command, or runs a body on its own. -/
theorem exec_cases {s t : State} {i : Instr} (hi : i ≠ .unlock) (h : exec i s = .next t) :
    (∃ d0 d1 entries, t = s.codecDone d0 d1 entries) ∨ ∃ body, PlainBody i body ∧ t = standalone body s := by
  rcases exec_kinds i with rfl | hc | ⟨body, hb⟩
  · exact absurd rfl hi
  · obtain ⟨d0, d1, entries, he⟩ := exec_codec i hc s
    exact .inl ⟨d0, d1, entries, Host.Outcome.next.inj (h.symm.trans he)⟩
  · exact .inr ⟨body, hb, Host.Outcome.next.inj (h.symm.trans (hb.exec_eq s))⟩

/-- A session outlives every part of a command. -/
theorem Ending.Follows.session {α : Type} {s : State} {e : Ending α} (h : e.Follows s)
    (hs : s.snap.isSome = true) : e.state.snap.isSome = true := by
  cases e with
  | ok a t =>
    obtain ⟨evs, w, -⟩ := h
    exact w.session hs
  | fail c t =>
    obtain ⟨evs, w, -⟩ := h
    exact w.session hs

/-- A command issued on its own keeps of the snapshot what its body keeps. -/
theorem standalone_snap (body : State → Ending (Word × Word)) (s : State) :
    (standalone body s).snap = (body s.accept).state.snap := Ending.finish_snap _

theorem standalone_noData_snap {body : State → Ending Unit} {s : State}
    (h : (body s.accept).state.snap = s.snap) :
    (standalone (fun s => (body s).noData) s).snap = s.snap := by
  rw [standalone_snap, Ending.noData_state, h]

/-- A command that needs a session and finds none is refused (R190). -/
theorem exec_of_no_session {s : State} {i : Instr} (hi : needsSnapshot i = true) (hs : s.snap = none) :
    exec i s = .next (s.failedIn .noSession 0) := by
  rcases exec_kinds i with rfl | (rfl | ⟨v, rfl⟩ | ⟨v, rfl⟩) | ⟨body, hb⟩
  · exact Bool.noConfusion hi
  · exact Bool.noConfusion hi
  · exact Bool.noConfusion hi
  · exact Bool.noConfusion hi
  · rw [hb.exec_eq, standalone, hb.refused hi s.accept hs]
    rfl

/-- A write command leaves the snapshot (R22). -/
theorem exec_snap_of_isWriteCommand {s t : State} {i : Instr} (hi : isWriteCommand i = true)
    (h : exec i s = .next t) : t.snap = s.snap := by
  cases i with
  | writeControlBitSet m =>
    cases h.symm.trans (exec_writeControlBitSet m s)
    exact standalone_noData_snap (writeControlBitSetProc_keep unmoved_snap m s.accept)
  | writeControlBitClear m =>
    cases h.symm.trans (exec_writeControlBitClear m s)
    exact standalone_noData_snap (writeControlBitClearProc_keep unmoved_snap m s.accept)
  | writeControlRaw v =>
    cases h.symm.trans (exec_writeControlRaw v s)
    exact standalone_noData_snap (writeControlRawProc_keep unmoved_snap v s.accept)
  | clearResetRequest =>
    cases h.symm.trans (exec_clearResetRequest s)
    exact standalone_noData_snap (clearResetRequestProc_keep unmoved_snap s.accept)
  | _ => exact Bool.noConfusion hi

/-- `READ_IDR` leaves the snapshot (R121). -/
theorem exec_readIdr_snap {s t : State} (h : exec .readIdr s = .next t) : t.snap = s.snap := by
  cases h.symm.trans (exec_readIdr s)
  rw [standalone_snap]
  exact Ending.keep_andThen (readIdrProc_keep unmoved_snap s.accept) fun _ _ => rfl

/-- The codec commands leave the snapshot (40_codec.md). -/
theorem exec_codec_snap {s t : State} {i : Instr}
    (hi : i = .diff ∨ (∃ v, i = .decodeStatus v) ∨ ∃ v, i = .decodeControl v)
    (h : exec i s = .next t) : t.snap = s.snap := by
  obtain ⟨d0, d1, entries, he⟩ := exec_codec i hi s
  cases h.symm.trans he
  rfl

/-- `READ` without a session makes one exactly when both its reads are answered `Ok`, which is when it
ends with cause none (R120, R180). -/
theorem exec_read_makes_session {s t : State} {v : Bool} (hs : s.snap = none)
    (h : exec (.read v) s = .next t) : t.snap.isSome = true ↔ t.cause = .none := by
  cases h.symm.trans (exec_read v s)
  have hf := reload_follows s.accept
  have hk := reload_keep unmoved_snap s.accept
  unfold standalone readProc
  cases e : reload s.accept with
  | fail c u =>
    rw [e] at hf hk
    obtain ⟨evs, -, -, -, hc, -⟩ := hf
    have hu : u.snap = none := hk.trans hs
    simp [hc, hu]
  | ok r u =>
    obtain ⟨st, ct⟩ := r
    rw [e] at hf
    obtain ⟨evs, w, -⟩ := hf
    have hu : u.cause = .none := w.cause
    cases v <;> simp [State.logSnapshot, hu]

/-! ### `UNLOCK` as a whole -/

theorem unlockAdvance_s1 {s : State} (h : s.stepReg = .s1) : unlockAdvance s = unlockS1 s := by
  rw [unlockAdvance, h]
theorem unlockAdvance_s2 {s : State} (h : s.stepReg = .s2) : unlockAdvance s = unlockS2 s := by
  rw [unlockAdvance, h]
theorem unlockAdvance_s3 {s : State} (h : s.stepReg = .s3) : unlockAdvance s = unlockS3 s := by
  rw [unlockAdvance, h]
theorem unlockAdvance_s4 {s : State} (h : s.stepReg = .s4) : unlockAdvance s = unlockS4 s := by
  rw [unlockAdvance, h]
theorem unlockAdvance_s5 {s : State} (h : s.stepReg = .s5) : unlockAdvance s = unlockS5 s := by
  rw [unlockAdvance, h]
theorem unlockAdvance_s6 {s : State} (h : s.stepReg = .s6) : unlockAdvance s = unlockS6 s := by
  rw [unlockAdvance, h]
theorem unlockAdvance_s7 {s : State} (h : s.stepReg = .s7) : unlockAdvance s = unlockS7 s := by
  rw [unlockAdvance, h]
theorem unlockAdvance_s8 {s : State} (h : s.stepReg = .s8) : unlockAdvance s = unlockS8 s := by
  rw [unlockAdvance, h]
theorem unlockAdvance_s9 {s : State} (h : s.stepReg = .s9) : unlockAdvance s = unlockS9 s := by
  rw [unlockAdvance, h]
theorem unlockAdvance_s10 {s : State} (h : s.stepReg = .s10) : unlockAdvance s = unlockS10 s := by
  rw [unlockAdvance, h]
theorem unlockAdvance_s11 {s : State} (h : s.stepReg = .s11) : unlockAdvance s = unlockS11 s := by
  rw [unlockAdvance, h]

/-- A resting value of the step register names no step (R165). -/
theorem unlockAdvance_resting {s : State} (h : s.stepReg.resting = true) : unlockAdvance s = s := by
  unfold unlockAdvance
  cases hk : s.stepReg with
  | idle | done | failed | abortSecured => rfl
  | _ =>
    rw [hk] at h
    exact Bool.noConfusion h

theorem unlockRun_resting {s : State} (n : Nat) (h : s.stepReg.resting = true) : unlockRun n s = s := by
  induction n with
  | zero => rfl
  | succ n ih => rw [unlockRun, unlockAdvance_resting h, ih]

/-- `UNLOCK` is about to run the step `k`, and nothing has failed so far. -/
structure UnlockAt (k : UnlockStep) (s : State) : Prop where
  stepReg : s.stepReg = k
  cause : s.cause = .none
  failStep : s.failStep = 0

/-- `t` is a terminal state of an `UNLOCK` run on from `s`: the session is destroyed, and the record is
that of the success, the secured abort, or the failure of a step (R162 to R164, R192). -/
def UnlockEnds (s t : State) : Prop :=
  ∃ evs, Ran s t evs ∧ t.snap = none ∧ Precise s t.cause evs ∧
    ((t.stepReg = .done ∧ t.cause = .none ∧ t.failStep = 0 ∧
        t.result = some ⟨true, .none, 0, 0, 0, []⟩) ∨
     (t.stepReg = .abortSecured ∧ t.cause = .targetSecured ∧ t.failStep = 6 ∧
        t.result = some ⟨false, .targetSecured, 6, 0, 0, []⟩ ∧
        evs.getLast? = some (.log .securedGuidance)) ∨
     (t.stepReg = .failed ∧ t.cause ∈ stepCauses t.failStep ∧
        t.result = some ⟨false, t.cause, t.failStep, 0, 0, []⟩ ∧
        evs.getLast? = some (.log (.error t.cause t.failStep))))

/-- A run that ends, after events none of which was answered `Err`. -/
theorem UnlockEnds.of_ran {s t u : State} {evs : List Event} (r : Ran s t evs)
    (n : s.config.pollReadErrPolicy = .abort → NoErr evs) (h : UnlockEnds t u) : UnlockEnds s u := by
  obtain ⟨evs', r', hsnap, hp, hend⟩ := h
  refine ⟨evs ++ evs', r.trans r', hsnap, fun p => ?_, ?_⟩
  · obtain ⟨he, hn⟩ := hp (by rwa [r.config])
    exact ⟨fun c => (n p).lastErr_append (he c), fun c => (n p).append (hn c)⟩
  · obtain hdone | ⟨hreg, hcause, hstep, hres, hlast⟩ | ⟨hreg, hcause, hres, hlast⟩ := hend
    · exact .inl hdone
    · exact .inr (.inl ⟨hreg, hcause, hstep, hres, by simp [hlast]⟩)
    · exact .inr (.inr ⟨hreg, hcause, hres, by simp [hlast]⟩)

/-- A step that goes on to a run that ends, or takes its failure exit. -/
theorem UnlockEnds.of_stepEnds {n : Fin 12} {k target : UnlockStep} {m : Nat} {s : State} (at_k : UnlockAt k s)
    (hd : target ≠ .done) (e : StepEnds n target s (unlockAdvance s))
    (next : UnlockAt target (unlockAdvance s) →
      (s.snap.isSome = true → (unlockAdvance s).snap.isSome = true) →
      UnlockEnds (unlockAdvance s) (unlockRun m (unlockAdvance s))) :
    UnlockEnds s (unlockRun (m + 1) s) := by
  rw [unlockRun]
  obtain ⟨evs, r, ⟨hreg, hcause, hstep, hsnap, hn⟩ | ⟨hreg, hcause, hstep, hsnap, hres, hlast, hp⟩⟩ := e
  · exact .of_ran r hn
      (next ⟨hreg, hcause.trans at_k.cause, hstep.trans at_k.failStep⟩ (hsnap hd))
  · rw [unlockRun_resting m (by rw [hreg]; rfl)]
    subst hstep
    exact ⟨evs, r, hsnap, hp, .inr (.inr ⟨hreg, hcause, hres, hlast⟩)⟩

/-- From step `k` in a session, `m` steps end `UNLOCK`. -/
def EndsFrom (k : UnlockStep) (m : Nat) : Prop :=
  ∀ s, UnlockAt k s → s.snap.isSome = true → UnlockEnds s (unlockRun m s)

/-- A step that ends as `StepEnds` says, before the steps that end `UNLOCK`. -/
theorem EndsFrom.step {n : Fin 12} {k target : UnlockStep} {m : Nat} (next : EndsFrom target m)
    (hd : target ≠ .done)
    (e : ∀ s, s.stepReg = k → s.snap.isSome = true → StepEnds n target s (unlockAdvance s)) :
    EndsFrom k (m + 1) := fun s at_k hs =>
  .of_stepEnds at_k hd (e s at_k.stepReg hs) fun at_next keep => next _ at_next (keep hs)

theorem endsFrom_s11 : EndsFrom .s11 1 := by
  intro s at_s11 hs
  rw [unlockRun, unlockRun, unlockAdvance_s11 at_s11.stepReg]
  obtain ⟨⟨evs, r, ⟨hreg, hcause, hstep, -, hn⟩ | ⟨hreg, hcause, hstep, hsnap, hres, hlast, hp⟩⟩, hdone⟩ :=
    unlockS11_ends hs
  · obtain ⟨hsnap, hres⟩ := hdone hreg
    rw [at_s11.cause] at hcause hres
    rw [at_s11.failStep] at hstep hres
    refine ⟨evs, r, hsnap, fun p => ⟨fun q => ?_, fun _ => hn p⟩, .inl ⟨hreg, hcause, hstep, hres⟩⟩
    rw [hcause] at q
    exact Bool.noConfusion q
  · rw [← hstep] at hcause hres hlast
    exact ⟨evs, r, hsnap, hp, .inr (.inr ⟨hreg, hcause, hres, hlast⟩)⟩

theorem endsFrom_s7 : EndsFrom .s7 5 :=
  .step (.step (.step (.step endsFrom_s11
    (by decide) fun _ h hs => unlockAdvance_s10 h ▸ unlockS10_ends hs)
    (by decide) fun _ h hs => unlockAdvance_s9 h ▸ unlockS9_ends hs)
    (by decide) fun _ h hs => unlockAdvance_s8 h ▸ unlockS8_ends hs)
    (by decide) fun _ h hs => unlockAdvance_s7 h ▸ unlockS7_ends hs

/-- The security check of `S6` may end `UNLOCK` too (R157). -/
theorem endsFrom_s6 : EndsFrom .s6 6 := by
  intro s at_s6 hs
  obtain h | ⟨evs, r, hreg, hcause, hstep, hsnap, hres, hlast, hn⟩ := unlockS6_ends hs
  · exact .of_stepEnds at_s6 (by decide) (unlockAdvance_s6 at_s6.stepReg ▸ h)
      fun at_s7 keep => endsFrom_s7 _ at_s7 (keep hs)
  · rw [unlockRun, unlockAdvance_s6 at_s6.stepReg, unlockRun_resting 5 (by rw [hreg]; rfl)]
    refine ⟨evs, r, hsnap, fun p => ⟨fun q => ?_, fun _ => hn p⟩,
      .inr (.inl ⟨hreg, hcause, hstep, hres, hlast⟩)⟩
    rw [hcause] at q
    exact Bool.noConfusion q

theorem endsFrom_s3 : EndsFrom .s3 9 :=
  .step (.step (.step endsFrom_s6
    (by decide) fun _ h hs => unlockAdvance_s5 h ▸ unlockS5_ends hs)
    (by decide) fun s h _ => unlockAdvance_s4 h ▸ unlockS4_ends s)
    (by decide) fun _ h hs => unlockAdvance_s3 h ▸ unlockS3_ends hs

/-- The start of `UNLOCK` issues nothing (R151). -/
theorem ran_unlockStart (s : State) : Ran s (unlockStart s) [] := by
  constructor <;> simp [unlockStart]

/-- `UNLOCK` ends in a terminal state, whatever the answers. -/
theorem unlock_ends {s t : State} (h : exec .unlock s = .next t) : UnlockEnds s t := by
  cases h.symm.trans (exec_unlock s)
  have at_s1 : UnlockAt .s1 (unlockStart s) := ⟨rfl, rfl, rfl⟩
  refine .of_ran (ran_unlockStart s) (fun _ => noErr_nil) ?_
  refine .of_stepEnds at_s1 (by decide) (unlockAdvance_s1 at_s1.stepReg ▸ unlockS1_ends _) fun at_s2 _ => ?_
  refine .of_stepEnds at_s2 (by decide) (unlockAdvance_s2 at_s2.stepReg ▸ unlockS2_ends _) fun at_s3 _ => ?_
  refine endsFrom_s3 _ at_s3 ?_
  have hreg := at_s3.stepReg
  rw [unlockAdvance_s2 at_s2.stepReg] at hreg ⊢
  exact unlockS2_session _ hreg

/-- Every command only adds legal events, takes one answer per transaction among them, and leaves the
configuration, the inputs and the side ports (R30, R50). -/
theorem exec_ran {s t : State} {i : Instr} (h : exec i s = .next t) : ∃ evs, Ran s t evs := by
  by_cases hi : i = .unlock
  · subst hi
    obtain ⟨evs, r, -⟩ := unlock_ends h
    exact ⟨evs, r⟩
  · obtain ⟨d0, d1, entries, rfl⟩ | ⟨body, hb, rfl⟩ := exec_cases hi h
    · exact ⟨[], ran_codecDone s d0 d1 entries⟩
    · obtain ⟨evs, r, -⟩ := standalone_ends (hb.follows s.accept)
      exact ⟨evs, r⟩

end Sys2Proof.Machine
end

section
/-! SUPPORT. The codes of the step register and of the causes as positions in a list, which makes them
distinct (R24, R181). -/

namespace Sys2Proof.Machine

/-- The values of the step register in the order of their codes (R24). -/
def stepsByCode : List UnlockStep :=
  [.idle, .s1, .s2, .s3, .s4, .s5, .s6, .s7, .s8, .s9, .s10, .s11, .done, .failed, .abortSecured]

/-- The causes in the order of their codes (R181). -/
def causesByCode : List Cause :=
  [.none, .probeNotFound, .probeOpenFailure, .attachInitFailure, .regReadFailure, .regWriteFailure,
    .timeoutReset, .timeoutFlashReady, .stepTransportFailure, .targetSecured, .noSession, .badCommand]

theorem stepsByCode_stepCode (a : UnlockStep) : stepsByCode[(stepCode a).toNat]? = some a := by
  cases a <;> rfl

theorem causesByCode_causeCode (a : Cause) : causesByCode[(causeCode a).toNat]? = some a := by
  cases a <;> rfl

theorem stepCode_injective : Function.Injective stepCode := fun a b h => by
  rw [← Option.some_inj, ← stepsByCode_stepCode a, h, stepsByCode_stepCode]

theorem causeCode_injective : Function.Injective causeCode := fun a b h => by
  rw [← Option.some_inj, ← causesByCode_causeCode a, h, causesByCode_causeCode]

theorem stepCode_lt (a : UnlockStep) : (stepCode a).toNat < 15 :=
  (List.getElem?_eq_some_iff.1 (stepsByCode_stepCode a)).1

theorem causeCode_lt (a : Cause) : (causeCode a).toNat < 12 :=
  (List.getElem?_eq_some_iff.1 (causesByCode_causeCode a)).1

end Sys2Proof.Machine
end

section
/-! PROOFS. The statements on the state: reset, the step, the snapshot and its views, and what the
commands leave alone. -/

namespace Sys2Proof.Machine

/-- The decoded views are functions of the snapshot (R28). -/
theorem views_of_snap_eq {s t : State} (h : t.snap = s.snap) :
    t.snap = s.snap ∧ t.statusView = s.statusView ∧ t.controlView = s.controlView := by
  simp [State.statusView, State.controlView, h]

/-- Settles O29: writes, `READ_IDR` and the codec commands keep the snapshot, and the views follow it. -/
theorem snapshotKept : Obligations.SnapshotKept := by
  rintro s t i (hw | rfl | hc) h
  · exact views_of_snap_eq (exec_snap_of_isWriteCommand hw h)
  · exact views_of_snap_eq (exec_readIdr_snap h)
  · exact views_of_snap_eq (exec_codec_snap hc h)

/-- Settles O44: neither a codec command nor a body run on its own touches the step register. -/
theorem standaloneKeepsStepRegister : Obligations.StandaloneKeepsStepRegister := by
  intro s t i hi h
  obtain ⟨d0, d1, entries, rfl⟩ | ⟨body, hb, rfl⟩ := exec_cases hi h
  · rfl
  · obtain ⟨evs, -, hreg, -⟩ := standalone_ends (hb.follows s.accept)
    exact hreg

/-- A command other than `UNLOCK` ends no session (R42). -/
theorem exec_keeps_session {s t : State} {i : Instr} (hi : i ≠ .unlock) (h : exec i s = .next t)
    (hs : s.snap.isSome = true) : t.snap.isSome = true := by
  obtain ⟨d0, d1, entries, rfl⟩ | ⟨body, hb, rfl⟩ := exec_cases hi h
  · exact hs
  · rw [standalone_snap]
    exact (hb.follows s.accept).session hs

/-- The commands by what they do without a session: `READ` makes one, some are refused, and the rest
neither need nor load a snapshot (R92, R42). -/
theorem instr_by_session (i : Instr) : i = .unlock ∨ (∃ v, i = .read v) ∨ needsSnapshot i = true ∨
    i = .readIdr ∨ i = .diff ∨ (∃ v, i = .decodeStatus v) ∨ ∃ v, i = .decodeControl v := by
  cases i with
  | unlock => exact .inl rfl
  | read v => exact .inr (.inl ⟨v, rfl⟩)
  | readIdr => exact .inr (.inr (.inr (.inl rfl)))
  | diff => exact .inr (.inr (.inr (.inr (.inl rfl))))
  | decodeStatus v => exact .inr (.inr (.inr (.inr (.inr (.inl ⟨v, rfl⟩)))))
  | decodeControl v => exact .inr (.inr (.inr (.inr (.inr (.inr ⟨v, rfl⟩)))))
  | _ => exact .inr (.inr (.inl rfl))

/-- Without a session, only a `READ` that ends with cause none makes one (R42). -/
theorem exec_makes_session_iff {s t : State} {i : Instr} (hi : i ≠ .unlock) (h : exec i s = .next t)
    (hs : s.snap = none) :
    t.snap.isSome = true ↔ t.cause = .none ∧ (i = .read true ∨ i = .read false) := by
  obtain rfl | ⟨v, rfl⟩ | hn | hk := instr_by_session i
  · exact absurd rfl hi
  · rw [exec_read_makes_session hs h]
    cases v <;> simp
  · cases h.symm.trans (exec_of_no_session hn hs)
    simp [State.failedIn, hs]
  · have ht : t.snap = none := (snapshotKept s t i (.inr hk) h).1.trans hs
    have hr : ∀ v, i ≠ .read v := by
      rintro v rfl
      simp at hk
    simp [ht, hr]

/-- Settles O45: by how `UNLOCK` ends, and by what the other commands do with and without a session. -/
theorem snapshotLifecycle : Obligations.SnapshotLifecycle := by
  intro s t i h
  refine ⟨?_, fun hi => exec_keeps_session hi h, fun hi => exec_makes_session_iff hi h⟩
  rintro rfl
  obtain ⟨evs, -, hsnap, -⟩ := unlock_ends h
  exact hsnap

/-- Only `UNLOCK` posts or delivers a memory-mapped write (R67, R64). -/
theorem exec_posted {s t : State} {i : Instr} (h : exec i s = .next t) (hi : i ≠ .unlock) :
    t.posted = s.posted := by
  obtain ⟨d0, d1, entries, rfl⟩ | ⟨body, hb, rfl⟩ := exec_cases hi h
  · rfl
  · exact (Ending.finish_posted _).trans (hb.posted s.accept)

/-- Only the waits and `UNLOCK` count polls (R25). -/
theorem exec_pollCnt {s t : State} {i : Instr} (h : exec i s = .next t) (hr : i ≠ .waitResetAsserted)
    (hf : i ≠ .waitFlashReady) (hi : i ≠ .unlock) : t.pollCnt = s.pollCnt := by
  obtain ⟨d0, d1, entries, rfl⟩ | ⟨body, hb, rfl⟩ := exec_cases hi h
  · rfl
  · exact (Ending.finish_pollCnt _).trans (hb.pollCnt hr hf s.accept)

/-- Settles O46: the events and answers of every command, `UNLOCK` run to its end among them. -/
theorem commandFrame : Obligations.CommandFrame := by
  intro s t i h
  obtain ⟨evs, r⟩ := exec_ran h
  exact ⟨r.config, r.inputs, r.sidePorts, exec_posted h, exec_pollCnt h, evs, r.trace, r.asked, r.script⟩

theorem step_config {s t : State} (h : step s = .next t) : t.config = s.config := by
  obtain rfl | ⟨rest, rfl⟩ | ⟨i, rest, ports, he⟩ | ⟨rest, ports, rfl⟩ := step_cases h
  · rfl
  · rfl
  · obtain ⟨evs, r⟩ := exec_ran he
    exact r.config
  · rfl

/-- Settles O53: no step changes a parameter, and so none changes their well-formedness. -/
theorem stepKeepsConfig : Obligations.StepKeepsConfig := fun _ _ h =>
  ⟨step_config h, congrArg Config.wellFormed (step_config h)⟩

/-- Settles O5: the fields of the reset state, by evaluation. -/
theorem resetState : Obligations.ResetState := ⟨rfl, rfl, rfl, rfl, rfl⟩

/-- Settles O8: the step of a block with no input. -/
theorem stepRestsWithoutInput : Obligations.StepRestsWithoutInput := fun _ => step_of_no_input

/-- Settles O14: each view is the decoding of the snapshot register it shows. -/
theorem viewsFollowSnapshot : Obligations.ViewsFollowSnapshot := by
  refine fun s st ct => ⟨fun h => ?_, fun h => ?_⟩
  · rw [State.statusView, State.controlView, h]
    exact ⟨rfl, rfl⟩
  · rw [State.statusView, State.controlView, h]
    exact ⟨rfl, rfl⟩

/-- Settles O51: nothing has been issued, counted, raised or answered at reset. -/
theorem resetMeetsInv : Obligations.ResetMeetsInv where
  traceLegal := by simp [State.reset]
  resting := rfl
  pollBounded := Nat.zero_le _
  causeRaised := rfl
  resultAgrees := ⟨rfl, rfl⟩
  failStepNamed := fun h => absurd rfl h

/-- Settles O54: each code is a position in the list of its values. -/
theorem codesDistinct : Obligations.CodesDistinct := by
  refine ⟨fun _ _ h => stepCode_injective h, fun a h => ?_, fun _ _ h => causeCode_injective h,
    fun a => Nat.le_of_lt_succ (causeCode_lt a)⟩
  have := stepCode_lt a
  simp [h] at this

end Sys2Proof.Machine
end

section
/-! SUPPORT. What a run of `UNLOCK` does to the poll counter, and how the invariant of the machine
follows from the way each command ends. -/

namespace Sys2Proof.Machine

/-! ### The poll counter within its budgets (R25) -/

/-- From `s` to `t` the parameters stay, and the poll counter does not grow, or not beyond the budgets. -/
structure PollsWithin (s t : State) : Prop where
  config : t.config = s.config
  pollCnt : t.pollCnt ≤ s.pollCnt ∨ t.pollCnt ≤ max s.config.resetPollMax s.config.flashPollMax

theorem PollsWithin.refl (s : State) : PollsWithin s s := ⟨rfl, .inl le_rfl⟩

theorem PollsWithin.trans {s t u : State} (h : PollsWithin s t) (k : PollsWithin t u) : PollsWithin s u := by
  refine ⟨k.config.trans h.config, ?_⟩
  obtain hk | hk := k.pollCnt
  · exact h.pollCnt.imp hk.trans hk.trans
  · exact .inr (h.config ▸ hk)

theorem PollsWithin.bounded {s t : State} (h : PollsWithin s t)
    (hs : s.pollCnt ≤ max s.config.resetPollMax s.config.flashPollMax) :
    t.pollCnt ≤ max t.config.resetPollMax t.config.flashPollMax := by
  rw [h.config]
  exact h.pollCnt.elim (·.trans hs) id

/-- No part of a command changes a parameter. -/
theorem Ending.Follows.config {α : Type} {s : State} {e : Ending α} (h : e.Follows s) :
    e.state.config = s.config := by
  cases e <;>
  · obtain ⟨evs, w, -⟩ := h
    exact w.config

/-- A step of `UNLOCK` leaves the counter as its body left it. -/
theorem PollsWithin.leaveStep {s : State} {e : Ending Unit} (n : Fin 12) (target : UnlockStep)
    (h : e.Follows s)
    (hp : e.state.pollCnt ≤ s.pollCnt ∨ e.state.pollCnt ≤ max s.config.resetPollMax s.config.flashPollMax) :
    PollsWithin s (e.leaveStep n target) := by
  have hc := h.config
  cases e <;> exact ⟨hc, hp⟩

/-- A step whose body counts no poll. -/
theorem PollsWithin.leaveStep_of_eq {s : State} {e : Ending Unit} (n : Fin 12) (target : UnlockStep)
    (h : e.Follows s) (hp : e.state.pollCnt = s.pollCnt) : PollsWithin s (e.leaveStep n target) :=
  .leaveStep n target h (.inl hp.le)

theorem refreshProc_pollCnt (v : Bool) (s : State) : (refreshProc v s).state.pollCnt = s.pollCnt :=
  refreshProc_keep unmoved_pollCnt (fun _ _ _ => rfl) v s

theorem unlockS6_pollsWithin (s : State) : PollsWithin s (unlockS6 s) := by
  have hc := (refreshProc_follows true s).config
  have hp := refreshProc_pollCnt true s
  unfold unlockS6
  cases e : refreshProc true s with
  | fail c t =>
    rw [e] at hc hp
    exact ⟨hc, .inl hp.le⟩
  | ok r t =>
    rw [e] at hc hp
    cases hq : (decodeStatus r.1).security with
    | true => simpa [hq] using (⟨hc, .inl hp.le⟩ : PollsWithin s (securedExit t))
    | false => simpa [hq] using (⟨hc, .inl hp.le⟩ : PollsWithin s (t.goTo .s7))

theorem unlockS11_pollsWithin (s : State) : PollsWithin s (unlockS11 s) := by
  have hc := (refreshProc_follows true s).config
  have hp := refreshProc_pollCnt true s
  unfold unlockS11
  cases e : refreshProc true s <;>
  · rw [e] at hc hp
    exact ⟨hc, .inl hp.le⟩

theorem unlockS7_pollsWithin (s : State) : PollsWithin s (unlockS7 s) :=
  .leaveStep_of_eq 7 .s8
    ((writeControlBitSetProc_follows _ s).andThen fun _ t => (refreshAndReportProc_follows _ t).discard)
    (Ending.keep_andThen (writeControlBitSetProc_keep unmoved_pollCnt _ s) fun _ t =>
      (congrArg State.pollCnt (Ending.discard_state _)).trans
        (refreshAndReportProc_keep unmoved_pollCnt (fun _ _ _ => rfl) _ t))

theorem logIdr_pollCnt (r : Word) (s : State) : (s.logIdr r).pollCnt = s.pollCnt := by
  unfold State.logIdr
  split <;> rfl

theorem unlockS4_pollsWithin (s : State) : PollsWithin s (unlockS4 s) :=
  .leaveStep_of_eq 4 .s5
    ((readIdrProc_follows s).andThen fun r t => .ok (went_logIdr r t)
      (by split <;> simp [Event.legal]) (by split <;> simp [NoErr, Event.isErr]))
    (Ending.keep_andThen (readIdrProc_keep unmoved_pollCnt s) logIdr_pollCnt)

theorem unlockAdvance_pollsWithin (s : State) : PollsWithin s (unlockAdvance s) := by
  cases hk : s.stepReg with
  | s1 =>
    rw [unlockAdvance_s1 hk]
    exact .leaveStep_of_eq 1 .s2 ((probeAttach_follows s).andThen fun _ t => probeTargetReset_follows t)
      (Ending.keep_andThen (probeAttach_keep unmoved_pollCnt s) fun _ t =>
        probeTargetReset_keep unmoved_pollCnt t)
  | s2 =>
    rw [unlockAdvance_s2 hk]
    exact .leaveStep_of_eq 2 .s3 (readProc_follows true s).discard
      ((congrArg State.pollCnt (Ending.discard_state _)).trans
        (readProc_keep unmoved_pollCnt (fun _ _ _ => rfl) true s))
  | s3 =>
    rw [unlockAdvance_s3 hk]
    exact .leaveStep 3 .s4 (waitResetAssertedProc_follows s) (waitResetAssertedProc_pollCnt s)
  | s4 =>
    rw [unlockAdvance_s4 hk]
    exact unlockS4_pollsWithin s
  | s5 =>
    rw [unlockAdvance_s5 hk]
    exact .leaveStep 5 .s6 (waitFlashReadyProc_follows s) (waitFlashReadyProc_pollCnt s)
  | s6 =>
    rw [unlockAdvance_s6 hk]
    exact unlockS6_pollsWithin s
  | s7 =>
    rw [unlockAdvance_s7 hk]
    exact unlockS7_pollsWithin s
  | s8 =>
    rw [unlockAdvance_s8 hk]
    exact .leaveStep_of_eq 8 .s9 (haltProc_follows s) (haltProc_pollCnt s)
  | s9 =>
    rw [unlockAdvance_s9 hk]
    exact .leaveStep_of_eq 9 .s10 (refreshProc_follows true s).discard
      ((congrArg State.pollCnt (Ending.discard_state _)).trans (refreshProc_pollCnt true s))
  | s10 =>
    rw [unlockAdvance_s10 hk]
    exact .leaveStep_of_eq 10 .s11 (releaseProc_follows s)
      (releaseProc_keep unmoved_pollCnt (fun _ _ _ => rfl) s)
  | s11 =>
    rw [unlockAdvance_s11 hk]
    exact unlockS11_pollsWithin s
  | idle | done | failed | abortSecured =>
    rw [unlockAdvance_resting (by rw [hk]; rfl)]
    exact .refl s

theorem unlockRun_pollsWithin (n : Nat) (s : State) : PollsWithin s (unlockRun n s) := by
  induction n generalizing s with
  | zero => exact .refl s
  | succ n ih => exact (unlockAdvance_pollsWithin s).trans (ih _)

theorem exec_pollsWithin {s t : State} {i : Instr} (h : exec i s = .next t) : PollsWithin s t := by
  by_cases hi : i = .unlock
  · subst hi
    cases h.symm.trans (exec_unlock s)
    exact .trans (t := unlockStart s) ⟨rfl, .inl (Nat.zero_le _)⟩ (unlockRun_pollsWithin 11 (unlockStart s))
  · obtain ⟨evs, r⟩ := exec_ran h
    obtain ⟨d0, d1, entries, rfl⟩ | ⟨body, hb, rfl⟩ := exec_cases hi h
    · exact ⟨rfl, .inl le_rfl⟩
    · refine ⟨r.config, ?_⟩
      rw [standalone, Ending.finish_pollCnt]
      exact hb.pollBound s.accept

/-! ### The result port and the recorded failure (R95, R26) -/

theorem resultAgrees_of_success {s : State} {d0 d1 : Word} {entries : List DiffEntry}
    (hc : s.cause = .none) (hf : s.failStep = 0)
    (hr : s.result = some ⟨true, .none, 0, d0, d1, entries⟩) : s.resultAgrees := by
  simp [State.resultAgrees, hr, hc, hf]

theorem resultAgrees_of_failure {s : State} (hc : s.cause ≠ .none)
    (hr : s.result = some ⟨false, s.cause, s.failStep, 0, 0, []⟩) : s.resultAgrees := by
  simp [State.resultAgrees, hr, hc]

/-- Every cause a step of `UNLOCK` fails with is one the block raises, and says that it failed. -/
theorem raised_of_mem_stepCauses : ∀ n, ∀ c ∈ stepCauses n, c.raised = true ∧ c ≠ .none := by
  decide

/-! ### Every command keeps the invariant -/

theorem Ran.traceLegal {s t : State} {evs : List Event} (r : Ran s t evs) (h : s.Inv) :
    ∀ e ∈ t.trace, e.legal t.config = true := by
  rw [r.trace, r.config]
  exact legal_append h.traceLegal r.legal

theorem unlock_keeps_inv {s t : State} (h : s.Inv) (he : exec .unlock s = .next t) : t.Inv := by
  have hp := (exec_pollsWithin he).bounded h.pollBounded
  obtain ⟨evs, r, -, -, ⟨hreg, hcause, hstep, hres⟩ | ⟨hreg, hcause, hstep, hres, -⟩ |
    ⟨hreg, hcause, hres, -⟩⟩ := unlock_ends he
  · exact ⟨r.traceLegal h, by rw [hreg]; rfl, hp, by rw [hcause]; rfl,
      resultAgrees_of_success hcause hstep hres, fun hn => absurd hstep hn⟩
  · exact ⟨r.traceLegal h, by rw [hreg]; rfl, hp, by rw [hcause]; rfl,
      resultAgrees_of_failure (by simp [hcause]) (by rw [hres, hcause, hstep]), fun _ => .inr hreg⟩
  · obtain ⟨hraised, hne⟩ := raised_of_mem_stepCauses t.failStep t.cause hcause
    exact ⟨r.traceLegal h, by rw [hreg]; rfl, hp, hraised, resultAgrees_of_failure hne hres,
      fun _ => .inl hreg⟩

theorem codecDone_keeps_inv {s : State} (h : s.Inv) (d0 d1 : Word) (entries : List DiffEntry) :
    (s.codecDone d0 d1 entries).Inv :=
  ⟨h.traceLegal, h.resting, h.pollBounded, rfl, resultAgrees_of_success rfl rfl rfl, fun hn => absurd rfl hn⟩

theorem standalone_keeps_inv {s : State} {body : State → Ending (Word × Word)} (h : s.Inv)
    (hb : (body s.accept).Follows s.accept)
    (hp : (standalone body s).pollCnt ≤
      max (standalone body s).config.resetPollMax (standalone body s).config.flashPollMax) :
    (standalone body s).Inv := by
  obtain ⟨evs, r, hreg, hstep, hraised, -, hend⟩ := standalone_ends hb
  refine ⟨r.traceLegal h, hreg ▸ h.resting, hp, hraised, ?_, fun hn => absurd hstep hn⟩
  obtain ⟨d0, d1, hcause, hres⟩ | ⟨hcause, hres⟩ := hend
  · exact resultAgrees_of_success hcause hstep hres
  · exact resultAgrees_of_failure hcause (by rw [hres, hstep])

theorem exec_keeps_inv {s t : State} {i : Instr} (h : s.Inv) (he : exec i s = .next t) : t.Inv := by
  by_cases hi : i = .unlock
  · subst hi
    exact unlock_keeps_inv h he
  · have hp := (exec_pollsWithin he).bounded h.pollBounded
    obtain ⟨d0, d1, entries, rfl⟩ | ⟨body, hb, rfl⟩ := exec_cases hi he
    · exact codecDone_keeps_inv h d0 d1 entries
    · exact standalone_keeps_inv h (hb.follows s.accept) hp

/-! ### The other things a step can do -/

/-- The host's inputs and the side ports are no part of the invariant. -/
theorem present_keeps_inv {s : State} (h : s.Inv) (rest : List HostInput) (ports : SidePorts) :
    (s.present rest ports).Inv :=
  ⟨h.traceLegal, h.resting, h.pollBounded, h.causeRaised, h.resultAgrees, h.failStepNamed⟩

theorem blockReset_keeps_inv {s : State} (h : s.Inv) (rest : List HostInput) :
    ({ s with inputs := rest } : State).blockReset.Inv :=
  ⟨h.traceLegal, rfl, Nat.zero_le _, rfl, ⟨rfl, rfl⟩, fun hn => absurd rfl hn⟩

theorem refuseBadCommand_keeps_inv {s : State} (h : s.Inv) : s.refuseBadCommand.Inv :=
  ⟨h.traceLegal, h.resting, h.pollBounded, rfl,
    resultAgrees_of_failure (by simp [State.refuseBadCommand]) rfl, fun hn => absurd rfl hn⟩

/-- Settles O52: by what a step can do; the commands are the case with content, each by how it ends. -/
theorem stepKeepsInv : Obligations.StepKeepsInv := by
  intro s t h hst
  obtain rfl | ⟨rest, rfl⟩ | ⟨i, rest, ports, he⟩ | ⟨rest, ports, rfl⟩ := step_cases hst
  · exact h
  · exact blockReset_keeps_inv h rest
  · exact exec_keeps_inv (present_keeps_inv h rest ports) he
  · exact refuseBadCommand_keeps_inv (present_keeps_inv h rest ports)

end Sys2Proof.Machine
end

section
/-! SUPPORT. A change of the state that no part of a command looks at is not seen by a whole command. -/

namespace Sys2Proof.Machine

theorem standalone_noData_blind {F : State → State} (hF : Blind F) {body : State → Ending Unit}
    (h : ∀ s, body (F s) = (body s).map F) (s : State) :
    standalone (fun s => (body s).noData) (F s) = F (standalone (fun s => (body s).noData) s) :=
  standalone_blind hF (fun u => by rw [h, Ending.map_noData]) s

/-- A command does the same before and after such a change; `DIFF` also looks at the side ports (R91). -/
theorem exec_blind {F : State → State} (hF : Blind F) (i : Instr)
    (hp : i = .diff → ∀ s, (F s).sidePorts = s.sidePorts) (s : State) :
    ∃ t, exec i s = .next t ∧ exec i (F s) = .next (F t) := by
  cases i with
  | decodeStatus value => exact ⟨_, rfl, by rw [exec, execDecodeStatus, hF.succeed, hF.accept]⟩
  | decodeControl value => exact ⟨_, rfl, by rw [exec, execDecodeControl, hF.succeed, hF.accept]⟩
  | diff => exact ⟨_, rfl, by rw [exec, execDiff, hp rfl, hF.succeed, hF.accept]⟩
  | read v => exact ⟨_, exec_read v s, by rw [exec_read, standalone_blind hF (readProc_blind hF v)]⟩
  | readIdr =>
    exact ⟨_, exec_readIdr s, by
      rw [exec_readIdr, standalone_blind hF fun u => Ending.map_andThen (apRead_blind hF _ u) fun _ _ => rfl]⟩
  | writeControlBitSet mask =>
    exact ⟨_, exec_writeControlBitSet mask s, by
      rw [exec_writeControlBitSet, standalone_noData_blind hF (writeControlBitSetProc_blind hF mask)]⟩
  | writeControlBitClear mask =>
    exact ⟨_, exec_writeControlBitClear mask s, by
      rw [exec_writeControlBitClear, standalone_noData_blind hF (writeControlBitClearProc_blind hF mask)]⟩
  | writeControlRaw value =>
    exact ⟨_, exec_writeControlRaw value s, by
      rw [exec_writeControlRaw, standalone_noData_blind hF (writeControlRawProc_blind hF value)]⟩
  | refresh v => exact ⟨_, exec_refresh v s, by rw [exec_refresh, standalone_blind hF (refreshProc_blind hF v)]⟩
  | refreshAndReport label =>
    exact ⟨_, exec_refreshAndReport label s, by
      rw [exec_refreshAndReport, standalone_blind hF (refreshAndReportProc_blind hF label)]⟩
  | waitResetAsserted =>
    exact ⟨_, exec_waitResetAsserted s, by
      rw [exec_waitResetAsserted, standalone_noData_blind hF (waitResetAssertedProc_blind hF)]⟩
  | clearResetRequest =>
    exact ⟨_, exec_clearResetRequest s, by
      rw [exec_clearResetRequest, standalone_noData_blind hF (clearResetRequestProc_blind hF)]⟩
  | waitFlashReady =>
    exact ⟨_, exec_waitFlashReady s, by
      rw [exec_waitFlashReady, standalone_noData_blind hF (waitFlashReadyProc_blind hF)]⟩
  | unlock => exact ⟨_, exec_unlock s, by rw [exec_unlock, ← hF.unlockStart, unlockRun_blind hF]⟩

end Sys2Proof.Machine
end

section
/-! PROOFS. The statements on the history of events and on the memory-mapped writes that no flush has
confirmed. -/

namespace Sys2Proof.Machine

/-- Settles O47: run from an empty history, a command issues the events it adds to any other one. -/
theorem historyNotRead : Obligations.HistoryNotRead := by
  intro s i history
  let fresh : State := { s with trace := [] }
  have run (h : List Event) : ∃ t, exec i fresh = .next t ∧
      exec i { s with trace := h } = .next { t with trace := h ++ t.trace } := by
    simpa [fresh] using exec_blind (blind_history h) i (fun _ _ => rfl) fresh
  obtain ⟨t, ht, hs⟩ := run s.trace
  obtain ⟨t', ht', hh⟩ := run history
  cases ht.symm.trans ht'
  exact ⟨_, t.trace, hs, rfl, hh⟩

/-- Settles O50: the answer decides between the two ends of each access. -/
theorem flushDeliversPosted : Obligations.FlushDeliversPosted := by
  intro s addr v x
  refine ⟨fun h => ?_, fun h => ?_, fun h => ?_⟩
  · exact memWrite_ok ((s.nextReply_eq_iff _).2 h)
  · exact memFlush_ok ((s.nextReply_eq_iff _).2 h)
  · exact memFlush_err ((s.nextReply_eq_iff _).2 h)

end Sys2Proof.Machine
end

section
/-! SUPPORT. What `UNLOCK` spends on the way to `DONE` (R69, R231): every event has a price by its kind
alone, and each part of the sequence that goes on adds a known sum to the bill of the trace. Counting
the events of one kind, or the time of the delays, is the bill at one list of prices. -/

namespace Sys2Proof.Machine

/-! ### Prices and bills -/

/-- A price for every kind of event, and for a delay by its length; a log item is free. What is not
priced costs nothing. -/
structure Prices where
  apRead : Nat := 0
  apWrite : Nat := 0
  memRead : Nat := 0
  memWrite : Nat := 0
  memFlush : Nat := 0
  probe : Nat := 0
  delay : Nat → Nat := fun _ => 0

/-- The price of an event. -/
def Prices.of (p : Prices) : Event → Nat
  | .apRead _ _ _ => p.apRead
  | .apWrite _ _ _ _ => p.apWrite
  | .memRead _ _ => p.memRead
  | .memWrite _ _ _ => p.memWrite
  | .memFlush _ => p.memFlush
  | .probeAttach _ => p.probe
  | .probeTargetReset _ => p.probe
  | .delay ms => p.delay ms
  | .log _ => 0

/-- What some events cost together. -/
def Prices.bill (p : Prices) (evs : List Event) : Nat := (evs.map p.of).sum

theorem Prices.bill_append (p : Prices) (a b : List Event) : p.bill (a ++ b) = p.bill a + p.bill b := by
  simp [Prices.bill]

/-- Where the events of one sort cost 1 and the others nothing, the bill is their number. -/
theorem Prices.bill_eq_countP {p : Prices} {q : Event → Bool} (h : ∀ e, p.of e = (q e).toNat)
    (evs : List Event) : p.bill evs = evs.countP q := by
  induction evs with
  | nil => rfl
  | cons e evs ih =>
    rw [← List.singleton_append, p.bill_append, ih, List.countP_append, Nat.add_right_cancel_iff]
    cases hq : q e <;> simp [Prices.bill, h, hq]

/-- Where a delay costs its length and the other events nothing, the bill is the time that passes. -/
theorem Prices.bill_eq_delayTotal {p : Prices} (h : ∀ e, p.of e = e.delayMs) (evs : List Event) :
    p.bill evs = delayTotal evs := by
  rw [Prices.bill, delayTotal, funext h]

/-! ### What a part spends -/

/-- A sum to pay, for given parameters at given prices. -/
abbrev Cost := Config → Prices → Nat

/-- From `s` to `t` the parameters stay, events of this cost are issued, and the poll counter and the
unconfirmed writes change as `polls` and `held` say. -/
structure Spent (s t : State) (cost : Cost) (polls : Nat → Nat)
    (held : List PostedWrite → List PostedWrite) : Prop where
  config : t.config = s.config
  bill : ∀ p : Prices, p.bill t.trace = p.bill s.trace + cost s.config p
  pollCnt : t.pollCnt = polls s.pollCnt
  posted : t.posted = held s.posted

section Rules

variable {α β : Type} {s t u : State} {e : Ending α} {a b : Cost} {f g : Nat → Nat}
  {x y : List PostedWrite → List PostedWrite}

theorem Spent.trans (h : Spent s t a f x) (k : Spent t u b g y) :
    Spent s u (fun c p => a c p + b c p) (fun n => g (f n)) (fun l => y (x l)) where
  config := k.config.trans h.config
  bill p := by rw [k.bill, h.bill, h.config, Nat.add_assoc]
  pollCnt := by rw [k.pollCnt, h.pollCnt]
  posted := by rw [k.posted, h.posted]

/-- The same cost and count of polls, written otherwise. -/
theorem Spent.of_eq (h : Spent s t a f x) (hab : ∀ p, a s.config p = b s.config p) (hfg : ∀ n, f n = g n) :
    Spent s t b g x :=
  ⟨h.config, fun p => hab p ▸ h.bill p, hfg s.pollCnt ▸ h.pollCnt, h.posted⟩

/-- The step register is no part of what is spent. -/
theorem Spent.goTo (h : Spent s t a f x) (target : UnlockStep) : Spent s (t.goTo target) a f x :=
  ⟨h.config, h.bill, h.pollCnt, h.posted⟩

theorem Spent.refl (s : State) : Spent s s (fun _ _ => 0) id id := ⟨rfl, fun _ => rfl, rfl, rfl⟩

theorem spent_after (s : State) (n : Nat) (evs : List Event) :
    Spent s (s.after n evs) (fun _ p => p.bill evs) id id :=
  ⟨rfl, fun p => p.bill_append s.trace evs, rfl, rfl⟩

/-- A part that goes on spends this; one that fails ends `UNLOCK`, and nothing is said of it. -/
def Ending.Spends {α : Type} (s : State) (cost : Cost) (polls : Nat → Nat)
    (held : List PostedWrite → List PostedWrite) : Ending α → Prop
  | .ok _ t => Spent s t cost polls held
  | .fail _ _ => True

theorem Ending.Spends.spent {v : α} (h : e.Spends s a f x) (he : e = .ok v t) : Spent s t a f x := by
  subst he
  exact h

theorem Ending.Spends.done {v : α} (h : Spent s t a f x) : (Ending.ok v t).Spends s a f x := h

/-- A part that starts after something has been spent. -/
theorem Ending.Spends.after (w : Spent s t a f x) (h : e.Spends t b g y) :
    e.Spends s (fun c p => a c p + b c p) (fun n => g (f n)) (fun l => y (x l)) := by
  cases e with
  | ok v u => exact w.trans h
  | fail c u => trivial

/-- Two parts in sequence. -/
theorem Ending.Spends.andThen {k : α → State → Ending β} (h : e.Spends s a f x)
    (hk : ∀ v t, (k v t).Spends t b g y) :
    (e.andThen k).Spends s (fun c p => a c p + b c p) (fun n => g (f n)) (fun l => y (x l)) := by
  cases e with
  | ok v t => exact (hk v t).after h
  | fail c t => trivial

theorem Ending.Spends.discard (h : e.Spends s a f x) : e.discard.Spends s a f x := by
  cases e with
  | ok v t => exact h
  | fail c t => trivial

/-- A part that needs a session, from what it does in one. -/
theorem session_spends {k : Snapshot → State → Ending β} (hk : ∀ sn, (k sn s).Spends s a f x) :
    ((session s).andThen k).Spends s a f x := by
  cases h : s.snap with
  | some sn =>
    rw [session_some h]
    exact hk sn
  | none =>
    rw [session_none h]
    trivial

theorem session_eq_ok {sn : Snapshot} (h : session s = .ok sn t) : s = t := by
  cases hs : s.snap with
  | some sn' =>
    rw [session_some hs] at h
    cases h
    rfl
  | none =>
    rw [session_none hs] at h
    cases h

/-- Two parts in sequence go on when both do. -/
theorem Ending.andThen_eq_ok {k : α → State → Ending β} {v : β} :
    e.andThen k = .ok v t ↔ ∃ w u, e = .ok w u ∧ k w u = .ok v t := by
  cases e <;> simp

/-- An access spends what it spends when it is answered `Ok`; answered `Err` it does not go on. -/
theorem spends_of_reply (ok : ∀ v, s.nextReply = .ok v → e.Spends s a f x)
    (err : s.nextReply = .err → ∃ c t, e = .fail c t) : e.Spends s a f x := by
  cases h : s.nextReply with
  | ok v => exact ok v h
  | err =>
    obtain ⟨c, t, rfl⟩ := err h
    trivial

end Rules

/-! ### The accesses -/

theorem apRead_spends (off : Nat) (s : State) : (apRead off s).Spends s (fun _ p => p.apRead) id id :=
  spends_of_reply (fun v h => apRead_ok h ▸ spent_after s 1 [.apRead 1 off (some v)])
    fun h => ⟨_, _, apRead_err h⟩

theorem apWriteControl_spends (v : Word) (s : State) :
    (apWriteControl v s).Spends s (fun _ p => p.apWrite) id id :=
  spends_of_reply (fun _ h => apWriteControl_ok h ▸ spent_after s 1 [.apWrite 1 4 v true])
    fun h => ⟨_, _, apWriteControl_err h⟩

theorem memRead_spends (addr : Word) (s : State) :
    (memRead addr s).Spends s (fun _ p => p.memRead) id id :=
  spends_of_reply (fun v h => memRead_ok h ▸ spent_after s 1 [.memRead addr (some v)])
    fun h => ⟨_, _, memRead_err h⟩

/-- A memory-mapped write is held back until the next flush (R67). -/
theorem memWrite_spends (addr v : Word) (s : State) :
    (memWrite addr v s).Spends s (fun _ p => p.memWrite) id (· ++ [⟨addr, v⟩]) :=
  spends_of_reply
    (fun _ h => memWrite_ok h ▸ ⟨rfl, fun p => p.bill_append s.trace [.memWrite addr v true], rfl, rfl⟩)
    fun h => ⟨_, _, memWrite_err h⟩

theorem memFlush_spends (s : State) : (memFlush s).Spends s (fun _ p => p.memFlush) id (fun _ => []) :=
  spends_of_reply
    (fun _ h => memFlush_ok h ▸ ⟨rfl, fun p => p.bill_append s.trace [.memFlush true], rfl, rfl⟩)
    fun h => ⟨_, _, memFlush_err h⟩

theorem probeAttach_spends (s : State) : (probeAttach s).Spends s (fun _ p => p.probe) id id :=
  spends_of_reply (fun _ h => probeAttach_ok h ▸ spent_after s 1 [.probeAttach true])
    fun h => ⟨_, _, probeAttach_err h⟩

theorem probeTargetReset_spends (s : State) : (probeTargetReset s).Spends s (fun _ p => p.probe) id id :=
  spends_of_reply (fun _ h => probeTargetReset_ok h ▸ spent_after s 1 [.probeTargetReset true])
    fun h => ⟨_, _, probeTargetReset_err h⟩

/-- A poll costs a read and counts, also where a failed one is an attempt (D10). -/
theorem poll_spends (s : State) : (poll s).Spends s (fun _ p => p.apRead) (· + 1) id := by
  cases h : s.nextReply with
  | ok v =>
    rw [poll_ok h]
    exact ⟨rfl, fun p => p.bill_append s.trace [.apRead 1 0 (some v)], rfl, rfl⟩
  | err =>
    cases hp : s.config.pollReadErrPolicy with
    | abort =>
      rw [poll_err_abort hp h]
      trivial
    | countAsAttempt =>
      rw [poll_err_counted hp h]
      exact ⟨rfl, fun p => p.bill_append s.trace [.apRead 1 0 none], rfl, rfl⟩

/-! ### Delays, log items and changes of the registers -/

theorem spent_delay (ms : Config → Nat) (s : State) :
    Spent s (s.delay (ms s.config)) (fun c p => p.delay (ms c)) id id :=
  ⟨rfl, fun p => p.bill_append s.trace [.delay (ms s.config)], rfl, rfl⟩

theorem spent_log (item : LogItem) (s : State) : Spent s (s.log item) (fun _ _ => 0) id id :=
  ⟨rfl, fun p => p.bill_append s.trace [.log item], rfl, rfl⟩

theorem spent_loadSnapshot (st ct : Word) (s : State) :
    Spent s (s.loadSnapshot st ct) (fun _ _ => 0) id id := ⟨rfl, fun _ => rfl, rfl, rfl⟩

theorem spent_clearPolls (s : State) : Spent s s.clearPolls (fun _ _ => 0) (fun _ => 0) id :=
  ⟨rfl, fun _ => rfl, rfl, rfl⟩

theorem spent_logSnapshot (v : Bool) (st ct : Word) (s : State) :
    Spent s (s.logSnapshot v st ct) (fun _ _ => 0) id id := by
  cases v with
  | true => exact spent_log _ s
  | false => exact ⟨rfl, fun _ => rfl, rfl, rfl⟩

theorem spent_logIdr (r : Word) (s : State) : Spent s (s.logIdr r) (fun _ _ => 0) id id := by
  unfold State.logIdr
  split
  · exact spent_log _ s
  · exact (spent_log _ s).trans (spent_log _ _)

/-! ### The procedures without a loop -/

theorem reload_spends (s : State) : (reload s).Spends s (fun _ p => p.apRead + p.apRead) id id :=
  (apRead_spends offStatus s).andThen fun _ t => (apRead_spends offControl t).andThen fun _ u => .done (.refl u)

theorem readProc_spends (v : Bool) (s : State) :
    (readProc v s).Spends s (fun _ p => p.apRead + p.apRead) id id :=
  (reload_spends s).andThen fun r t =>
    .done ((spent_loadSnapshot r.1 r.2 t).trans (spent_logSnapshot v r.1 r.2 _))

theorem quietRefresh_spends (s : State) :
    (quietRefresh s).Spends s (fun _ p => p.apRead + p.apRead) id id :=
  (reload_spends s).andThen fun r t => .done (spent_loadSnapshot r.1 r.2 t)

theorem refreshProc_spends (v : Bool) (s : State) :
    (refreshProc v s).Spends s (fun _ p => p.apRead + p.apRead) id id :=
  session_spends fun _ => readProc_spends v s

theorem refreshAndReportProc_spends (label : Word) (s : State) :
    (refreshAndReportProc label s).Spends s (fun _ p => p.apRead + p.apRead) id id :=
  session_spends fun _ => (reload_spends s).andThen fun r t =>
    .done (((spent_log _ t).trans (spent_log _ _)).trans (spent_loadSnapshot r.1 r.2 _))

/-- The halt of `S8` ends with every memory-mapped write delivered (R67, R159). -/
theorem haltProc_spends (s : State) : (haltProc s).Spends s
    (fun c p => p.memRead + (p.memWrite + (p.memFlush + (p.delay c.haltSettleMs + p.memRead)))) id
    (fun _ => []) :=
  (memRead_spends s.config.dhcsrAddr s).andThen fun before t =>
    (memWrite_spends t.config.dhcsrAddr t.config.dhcsrHaltWord t).andThen fun _ u =>
      (memFlush_spends u).andThen fun _ w => .after (spent_delay Config.haltSettleMs w)
        ((memRead_spends w.config.dhcsrAddr _).andThen fun after z =>
          .done (spent_log (.dhcsr before after) z))

theorem releaseProc_spends (s : State) : (releaseProc s).Spends s
    (fun c p => p.apWrite + (p.delay c.resetReleaseMs + (p.apRead + p.apRead + p.memRead))) id id :=
  (session_spends fun _ => apWriteControl_spends _ s).andThen fun _ t =>
    .after (spent_delay Config.resetReleaseMs t)
      ((refreshProc_spends true _).andThen fun _ u => (memRead_spends _ u).andThen fun _ w => .done (spent_log _ w))

/-! ### The waits (R141, R142) -/

/-- A wait that sees the reset polls `k + 1` times, with a delay before each poll but the first (R141). -/
theorem resetLoop_spent {n : Nat} {s t : State} (h : resetLoop n s = .ok () t) : ∃ k < n, Spent s t
    (fun c p => p.apRead + k * (p.delay c.resetPollDelayMs + p.apRead)) (· + (k + 1)) id := by
  induction n generalizing s with
  | zero => cases h
  | succ n ih =>
    obtain ⟨polled, u, hu, hk⟩ := Ending.andThen_eq_ok.1 h
    have w := (poll_spends s).spent hu
    by_cases hs : seesReset polled
    · rw [if_pos hs] at hk
      cases hk
      exact ⟨0, n.succ_pos, w.of_eq (by simp) fun _ => rfl⟩
    · rw [if_neg hs] at hk
      obtain ⟨k, hkn, wk⟩ := ih hk
      refine ⟨k + 1, Nat.succ_lt_succ hkn, ?_⟩
      exact ((w.trans (spent_delay Config.resetPollDelayMs u)).trans wk).of_eq (fun p => by ring)
        fun m => by simp only [id]; omega

theorem waitResetAssertedProc_spent {s t : State} (h : waitResetAssertedProc s = .ok () t) :
    ∃ k < s.config.resetPollMax, Spent s t (fun c p => p.apWrite + (p.apRead +
      k * (p.delay c.resetPollDelayMs + p.apRead))) (fun _ => k + 1) id := by
  obtain ⟨sn, u, hu, h⟩ := Ending.andThen_eq_ok.1 h
  obtain ⟨_, v, hv, hloop⟩ := Ending.andThen_eq_ok.1 h
  cases session_eq_ok hu
  have w := (spent_clearPolls s).trans ((apWriteControl_spends maskSysResetRequest s.clearPolls).spent hv)
  obtain ⟨k, hk, wk⟩ := resetLoop_spent hloop
  exact ⟨k, w.config ▸ hk, (w.trans wk).of_eq (fun p => by simp) fun m => by simp⟩

/-- A wait that sees the flash ready polls `k + 1` times, with no delay (R142, R144). -/
theorem flashLoop_spent {n : Nat} {s t : State} (hd : s.config.flashPollDelayMs = none)
    (h : flashLoop n s = .ok true t) :
    ∃ k < n, Spent s t (fun _ p => p.apRead + k * p.apRead) (· + (k + 1)) id := by
  induction n generalizing s with
  | zero => cases h
  | succ n ih =>
    obtain ⟨polled, u, hu, hk⟩ := Ending.andThen_eq_ok.1 h
    have w := (poll_spends s).spent hu
    by_cases hs : seesFlashReady polled
    · rw [if_pos hs] at hk
      cases hk
      exact ⟨0, n.succ_pos, w.of_eq (by simp) fun _ => rfl⟩
    · have hd' : u.config.flashPollDelayMs = none := w.config ▸ hd
      rw [if_neg hs, State.flashDelay, hd'] at hk
      obtain ⟨k, hkn, wk⟩ := ih hd' hk
      exact ⟨k + 1, Nat.succ_lt_succ hkn, (w.trans wk).of_eq (fun p => by ring) fun m => by omega⟩

theorem waitFlashReadyProc_spent {s t : State} (hd : s.config.flashPollDelayMs = none)
    (h : waitFlashReadyProc s = .ok () t) :
    ∃ k < s.config.flashPollMax, Spent s t (fun _ p => p.apRead + p.apRead + (p.apRead + k * p.apRead) +
      (p.apRead + p.apRead)) (fun _ => k + 1) id := by
  obtain ⟨sn, u, hu, h⟩ := Ending.andThen_eq_ok.1 h
  obtain ⟨_, v, hv, h⟩ := Ending.andThen_eq_ok.1 h
  obtain ⟨seen, w, hw, h⟩ := Ending.andThen_eq_ok.1 h
  obtain ⟨_, z, hz, hend⟩ := Ending.andThen_eq_ok.1 h
  cases session_eq_ok hu
  cases seen with
  | false => cases hend
  | true =>
    cases hend
    have before := (spent_clearPolls s).trans ((quietRefresh_spends s.clearPolls).spent hv)
    obtain ⟨k, hk, polls⟩ := flashLoop_spent (before.config ▸ hd) hw
    refine ⟨k, before.config ▸ hk, ?_⟩
    exact ((before.trans polls).trans ((quietRefresh_spends w).spent hz)).of_eq (fun p => by simp)
      fun m => by simp

/-! ### The whole sequence -/

/-- A sequence that ends `DONE` goes on from the step it runs next (R163). -/
theorem unlockRun_goes_on {n : Fin 12} {m : Nat} {target : UnlockStep} {s : State} {e : Ending Unit}
    (he : unlockAdvance s = e.leaveStep n target) (hd : (unlockRun (m + 1) s).stepReg = .done) :
    ∃ u, e = .ok () u ∧ unlockRun (m + 1) s = unlockRun m (u.goTo target) := by
  rw [unlockRun, he] at hd ⊢
  cases e with
  | ok _ u => exact ⟨u, rfl, rfl⟩
  | fail c u =>
    rw [Ending.leaveStep_fail, unlockRun_resting m rfl] at hd
    cases hd

/-- From step `k`, `m` steps that end `DONE` spend this. -/
def SpendsFrom (k : UnlockStep) (m : Nat) (cost : Cost) (polls : Nat → Nat)
    (held : List PostedWrite → List PostedWrite) : Prop :=
  ∀ s, s.stepReg = k → (unlockRun m s).stepReg = .done → Spent s (unlockRun m s) cost polls held

/-- A step with its body before the steps that end `DONE`. -/
theorem SpendsFrom.step {k target : UnlockStep} {n : Fin 12} {m : Nat} {a b : Cost} {f g : Nat → Nat}
    {x y : List PostedWrite → List PostedWrite} (next : SpendsFrom target m b g y)
    (body : State → Ending Unit)
    (advance : ∀ s, s.stepReg = k → unlockAdvance s = (body s).leaveStep n target)
    (spends : ∀ s, (body s).Spends s a f x) :
    SpendsFrom k (m + 1) (fun c p => a c p + b c p) (fun i => g (f i)) (fun l => y (x l)) := by
  intro s hs hd
  obtain ⟨u, hu, hrun⟩ := unlockRun_goes_on (advance s hs) hd
  rw [hrun] at hd ⊢
  exact (((spends s).spent hu).goTo target).trans (next _ rfl hd)

theorem spendsFrom_s11 : SpendsFrom .s11 1 (fun _ p => p.apRead + p.apRead) id id := by
  intro s hs hd
  have w := refreshProc_spends true s
  rw [unlockRun, unlockRun, unlockAdvance_s11 hs, unlockS11] at hd ⊢
  cases e : refreshProc true s with
  | ok r u =>
    rw [e] at w
    exact ⟨w.config, w.bill, w.pollCnt, w.posted⟩
  | fail c u =>
    rw [e] at hd
    cases hd

theorem spendsFrom_s9 : SpendsFrom .s9 3 (fun c p => p.apRead + p.apRead + (p.apWrite +
    (p.delay c.resetReleaseMs + (p.apRead + p.apRead + p.memRead)) + (p.apRead + p.apRead))) id id :=
  (spendsFrom_s11.step releaseProc (fun _ h => unlockAdvance_s10 h) releaseProc_spends).step
    (fun s => (refreshProc true s).discard) (fun _ h => unlockAdvance_s9 h)
    fun s => (refreshProc_spends true s).discard

/-- The flush of `S8` delivers every posted write, and no later step posts one (R67). -/
theorem spendsFrom_s7 : SpendsFrom .s7 5 (fun c p => 8 * p.apRead + 2 * p.apWrite + 3 * p.memRead +
    p.memWrite + p.memFlush + p.delay c.haltSettleMs + p.delay c.resetReleaseMs) id (fun _ => []) := by
  intro s hs hd
  have w := (spendsFrom_s9.step haltProc (fun _ h => unlockAdvance_s8 h) haltProc_spends).step
    _ (fun _ h => unlockAdvance_s7 h) (fun s =>
      (session_spends fun _ => apWriteControl_spends _ s).andThen fun _ t =>
        (refreshAndReportProc_spends _ t).discard) s hs hd
  exact w.of_eq (fun p => by ring) fun _ => rfl

theorem unlockS6_of_ok {s u : State} {r : Word × Word} (h : refreshProc true s = .ok r u) :
    unlockS6 s = if (decodeStatus r.1).security then securedExit u else u.goTo .s7 := by
  rw [unlockS6, h]

theorem unlockS6_of_fail {s u : State} {c : Cause} (h : refreshProc true s = .fail c u) :
    unlockS6 s = failureExit 6 c u := by
  rw [unlockS6, h]

theorem spendsFrom_s6 : SpendsFrom .s6 6 (fun c p => 10 * p.apRead + 2 * p.apWrite + 3 * p.memRead +
    p.memWrite + p.memFlush + p.delay c.haltSettleMs + p.delay c.resetReleaseMs) id (fun _ => []) := by
  intro s hs hd
  rw [unlockRun, unlockAdvance_s6 hs] at hd ⊢
  cases e : refreshProc true s with
  | fail c u =>
    rw [unlockS6_of_fail e, unlockRun_resting 5 rfl] at hd
    cases hd
  | ok r u =>
    have w := (refreshProc_spends true s).spent e
    rw [unlockS6_of_ok e] at hd ⊢
    cases hq : (decodeStatus r.1).security with
    | true =>
      rw [hq, if_pos rfl, unlockRun_resting 5 rfl] at hd
      cases hd
    | false =>
      rw [hq, if_neg Bool.false_ne_true] at hd
      rw [if_neg Bool.false_ne_true]
      exact ((w.goTo .s7).trans (spendsFrom_s7 _ rfl hd)).of_eq (fun p => by ring)
        fun _ => rfl

/-- What a whole `UNLOCK` spends that polls `k1 + 1` times in `S3` and `k2 + 1` times in `S5` (R69, R231). -/
def unlockCost (k1 k2 : Nat) : Cost := fun c p =>
  (17 + (k1 + 1) + (k2 + 1)) * p.apRead + 3 * p.apWrite + 3 * p.memRead + p.memWrite + p.memFlush +
    2 * p.probe + k1 * p.delay c.resetPollDelayMs + p.delay c.haltSettleMs + p.delay c.resetReleaseMs

theorem spent_unlockStart (s : State) : Spent s (unlockStart s) (fun _ _ => 0) (fun _ => 0) id :=
  ⟨rfl, fun _ => rfl, rfl, rfl⟩

/-- Whenever `UNLOCK` ends `DONE`, every step of it has gone on, and spent what it spends. -/
theorem unlock_spent {s t : State} (h : exec .unlock s = .next t) (hd : t.stepReg = .done)
    (hf : s.config.flashPollDelayMs = none) :
    ∃ k1 < s.config.resetPollMax, ∃ k2 < s.config.flashPollMax,
      Spent s t (unlockCost k1 k2) (fun _ => k2 + 1) (fun _ => []) := by
  cases h.symm.trans (exec_unlock s)
  obtain ⟨u1, h1, run⟩ := unlockRun_goes_on (unlockAdvance_s1 rfl) hd
  rw [run] at hd ⊢
  obtain ⟨u2, h2, run⟩ := unlockRun_goes_on (unlockAdvance_s2 rfl) hd
  rw [run] at hd ⊢
  obtain ⟨u3, h3, run⟩ := unlockRun_goes_on (unlockAdvance_s3 rfl) hd
  rw [run] at hd ⊢
  obtain ⟨u4, h4, run⟩ := unlockRun_goes_on (unlockAdvance_s4 rfl) hd
  rw [run] at hd ⊢
  obtain ⟨u5, h5, run⟩ := unlockRun_goes_on (unlockAdvance_s5 rfl) hd
  rw [run] at hd ⊢
  have w1 := ((probeAttach_spends _).andThen fun _ v => probeTargetReset_spends v).spent h1
  have w2 := (w1.goTo .s2).trans ((readProc_spends true _).discard.spent h2)
  obtain ⟨k1, hk1, w3⟩ := waitResetAssertedProc_spent h3
  have w4 := ((w2.goTo .s3).trans (w3.goTo .s4)).trans
    (((apRead_spends offIdr _).andThen fun r v => .done (spent_logIdr r v)).spent h4)
  obtain ⟨k2, hk2, w5⟩ := waitFlashReadyProc_spent ((w4.goTo .s5).config ▸ hf) h5
  have w6 := ((w4.goTo .s5).trans (w5.goTo .s6)).trans (spendsFrom_s6 _ rfl hd)
  refine ⟨k1, (w2.goTo .s3).config ▸ hk1, k2, (w4.goTo .s5).config ▸ hk2, ?_⟩
  exact ((spent_unlockStart s).trans w6).of_eq (fun p => by simp only [unlockCost]; ring) fun _ => rfl

end Sys2Proof.Machine
end

section
/-! PROOFS. The number of transactions of a successful `UNLOCK`. -/

namespace Sys2Proof.Machine

/-- Settles O40: each number is what a whole run costs where the events of that kind alone cost 1. -/
theorem unlockBudget : Obligations.UnlockBudget := by
  intro s t h hd hf
  obtain ⟨k1, hk1, k2, hk2, w⟩ := unlock_spent h hd hf
  obtain ⟨evs, r⟩ := exec_ran h
  have bill (p : Prices) : p.bill evs = unlockCost k1 k2 s.config p := by
    have hp := w.bill p
    rwa [r.trace, p.bill_append, Nat.add_left_cancel_iff] at hp
  have count (p : Prices) (q : Event → Bool) (hq : ∀ e, p.of e = (q e).toNat) :
      evs.countP q = unlockCost k1 k2 s.config p := by
    rw [← Prices.bill_eq_countP hq, bill]
  have time : delayTotal evs = unlockCost k1 k2 s.config { delay := id } := by
    rw [← Prices.bill_eq_delayTotal (p := { delay := id }) (by rintro ⟨⟩ <;> rfl), bill]
  refine ⟨evs, k1 + 1, k2 + 1, r.trace, by omega, hk1, by omega, hk2, w.pollCnt, ?_, ?_, ?_, ?_, ?_, ?_, ?_,
    ?_, w.posted⟩
  · simpa [unlockCost] using count { apRead := 1 } Event.isApRead (by rintro ⟨⟩ <;> rfl)
  · simpa [unlockCost] using count { apWrite := 1 } Event.isApWrite (by rintro ⟨⟩ <;> rfl)
  · simpa [unlockCost] using count { memRead := 1 } Event.isMemRead (by rintro ⟨⟩ <;> rfl)
  · simpa [unlockCost] using count { memWrite := 1 } Event.isMemWrite (by rintro ⟨⟩ <;> rfl)
  · simpa [unlockCost] using count { memFlush := 1 } Event.isMemFlush (by rintro ⟨⟩ <;> rfl)
  · simpa [unlockCost] using count { probe := 1 } Event.isProbe (by rintro ⟨⟩ <;> rfl)
  · simpa [unlockCost] using count { delay := fun _ => 1 } Event.isDelay (by rintro ⟨⟩ <;> rfl)
  · simpa [unlockCost] using time

end Sys2Proof.Machine
end

section
/-! SUPPORT. The decoder and the encoder between words, fields and commands: a word and its four fields
determine each other (R90), the opcode map is read in both directions (R92), and R94's checks are said of
the opcode as a number. -/

namespace Sys2Proof

/-! ### A command word and its fields -/

theorem ofBool_getLsbD {n : Nat} (w : BitVec n) (k : Nat) :
    BitVec.ofBool (w.getLsbD k) = w.extractLsb' k 1 := by
  ext i hi
  obtain rfl : i = 0 := by omega
  simp

@[simp] theorem fieldsOf_wordOf (r : RawCommand) : fieldsOf (wordOf r) = r := by
  obtain ⟨op, v, zero, arg⟩ := r
  rw [fieldsOf, wordOf, RawCommand.mk.injEq]
  refine ⟨BitVec.extractLsb'_append_eq_left, ?_, ?_, ?_⟩
  · rw [BitVec.getLsbD_append, BitVec.getLsbD_append]
    simp
  · rw [BitVec.extractLsb'_append_eq_of_add_le (by decide),
      BitVec.extractLsb'_append_eq_of_add_le (by decide), BitVec.extractLsb'_append_eq_left]
  · rw [BitVec.extractLsb'_append_eq_of_add_le (by decide),
      BitVec.extractLsb'_append_eq_of_add_le (by decide), BitVec.extractLsb'_append_eq_right]

@[simp] theorem wordOf_fieldsOf (w : CommandWord) : wordOf (fieldsOf w) = w := by
  rw [wordOf, fieldsOf, ofBool_getLsbD]
  simp only [BitVec.extractLsb'_append_extractLsb'_eq_extractLsb']
  exact BitVec.extractLsb'_eq_self

theorem fieldsOf_op_toNat (w : CommandWord) : (fieldsOf w).op.toNat = w.toNat / 2 ^ 36 := by
  have := w.isLt
  simp [fieldsOf, Nat.shiftRight_eq_div_pow]
  omega

theorem fieldsOf_v_iff (w : CommandWord) : (fieldsOf w).v = true ↔ w.toNat / 2 ^ 35 % 2 = 1 := by
  simp [fieldsOf, BitVec.getLsbD, Nat.testBit_eq_decide_div_mod_eq]

theorem fieldsOf_zero_toNat (w : CommandWord) : (fieldsOf w).zero.toNat = w.toNat / 2 ^ 32 % 8 := by
  simp [fieldsOf, Nat.shiftRight_eq_div_pow]

theorem fieldsOf_arg_toNat (w : CommandWord) : (fieldsOf w).arg.toNat = w.toNat % 2 ^ 32 := by
  simp [fieldsOf]

/-! ### R94's checks -/

namespace RawCommand

theorem wellFormed_iff (r : RawCommand) : r.wellFormed = true ↔ r.opDefined = true ∧
    r.zeroClear = true ∧ r.verboseAllowed = true ∧ r.argAllowed = true := by
  unfold wellFormed defect
  split_ifs <;> simp_all

theorem opDefined_iff (r : RawCommand) : r.opDefined = true ↔ r.op.toNat < 14 := by
  have := r.op.isLt
  simp [opDefined, BitVec.toNat_eq]
  omega

theorem zeroClear_iff (r : RawCommand) : r.zeroClear = true ↔ r.zero.toNat = 0 := by
  simp [zeroClear, BitVec.toNat_eq]

theorem usesVerbose_iff (r : RawCommand) :
    r.usesVerbose = true ↔ r.op.toNat = 3 ∨ r.op.toNat = 8 := by
  simp [usesVerbose, BitVec.toNat_eq]

theorem usesArg_iff (r : RawCommand) : r.usesArg = true ↔ r.op.toNat = 0 ∨ r.op.toNat = 1 ∨
    r.op.toNat = 5 ∨ r.op.toNat = 6 ∨ r.op.toNat = 7 ∨ r.op.toNat = 9 := by
  simp [usesArg, BitVec.toNat_eq, or_assoc]

theorem verboseAllowed_iff (r : RawCommand) :
    r.verboseAllowed = true ↔ (r.v = true → r.usesVerbose = true) := by
  cases h : r.v <;> simp [verboseAllowed, h]

theorem argAllowed_iff (r : RawCommand) :
    r.argAllowed = true ↔ (r.arg.toNat ≠ 0 → r.usesArg = true) := by
  simp [argAllowed, BitVec.toNat_eq, or_iff_not_imp_left]

/-- The fields that a command with this opcode uses, the others zero (R92). -/
def usedFields (r : RawCommand) : RawCommand where
  op := r.op
  v := r.v && r.usesVerbose
  zero := 0#3
  arg := if r.usesArg then r.arg else 0#32

theorem usedFields_of_wellFormed {r : RawCommand} (h : r.wellFormed = true) : r.usedFields = r := by
  obtain ⟨-, hz, hv, ha⟩ := r.wellFormed_iff.1 h
  have hzero : 0#3 = r.zero := (eq_of_beq hz).symm
  have hverbose : (r.v && r.usesVerbose) = r.v := by
    simpa using r.verboseAllowed_iff.1 hv
  have harg : (if r.usesArg then r.arg else 0#32) = r.arg := by
    split
    · rfl
    · next hn => exact (BitVec.eq_of_toNat_eq (not_imp_comm.1 (r.argAllowed_iff.1 ha) hn)).symm
  rw [usedFields, hverbose, hzero, harg]

end RawCommand

/-! ### The opcode map, in both directions -/

theorem instrOf_rawOf (i : Instr) : instrOf (rawOf i) = .ok i := by cases i <;> rfl

/-- Row by row of the map: a command keeps its opcode and the operands its row names. -/
theorem rawOf_of_instrOf {r : RawCommand} {i : Instr} (h : instrOf r = .ok i) :
    rawOf i = r.usedFields := by
  unfold instrOf at h
  split at h
  case h_15 => cases h
  all_goals
    cases h
    simp [rawOf, RawCommand.usedFields, RawCommand.usesVerbose, RawCommand.usesArg, BitVec.toNat_eq, *]

/-- Every opcode below `0xE` is a row of the map (R92, R94 (a)). -/
theorem exists_instrOf {r : RawCommand} (h : r.opDefined = true) : ∃ i, instrOf r = .ok i := by
  have hop := r.opDefined_iff.1 h
  unfold instrOf
  generalize r.op.toNat = op at hop ⊢
  interval_cases op <;> exact ⟨_, rfl⟩

theorem rawOf_wellFormed (i : Instr) : (rawOf i).wellFormed = true := by
  open Laws.RawWellFormed in
  cases i with
  | decodeStatus value => exact decodeStatus value
  | decodeControl value => exact decodeControl value
  | diff => exact diff
  | read verbose => exact read verbose
  | readIdr => exact readIdr
  | writeControlBitSet mask => exact writeControlBitSet mask
  | writeControlBitClear mask => exact writeControlBitClear mask
  | writeControlRaw value => exact writeControlRaw value
  | refresh verbose => exact refresh verbose
  | refreshAndReport label => exact refreshAndReport label
  | waitResetAsserted => exact waitResetAsserted
  | clearResetRequest => exact clearResetRequest
  | waitFlashReady => exact waitFlashReady
  | unlock => exact unlock

/-! ### The decoder -/

theorem decode_of_wellFormed {w : CommandWord} (h : (fieldsOf w).wellFormed = true) :
    decode w = instrOf (fieldsOf w) := by
  rw [RawCommand.wellFormed, Option.isNone_iff_eq_none] at h
  rw [decode, h]

theorem decode_of_not_wellFormed {w : CommandWord} (h : ¬ (fieldsOf w).wellFormed = true) :
    ∃ d, decode w = .error d := by
  rw [RawCommand.wellFormed, Option.isNone_iff_eq_none, ← ne_eq, Option.ne_none_iff_exists'] at h
  obtain ⟨d, hd⟩ := h
  exact ⟨d, by rw [decode, hd]⟩

theorem decode_error_iff (w : CommandWord) :
    (∃ d, decode w = .error d) ↔ ¬ (fieldsOf w).wellFormed = true := by
  refine ⟨fun ⟨d, hd⟩ h => ?_, decode_of_not_wellFormed⟩
  obtain ⟨i, hi⟩ := exists_instrOf ((fieldsOf w).wellFormed_iff.1 h).1
  rw [decode_of_wellFormed h, hi] at hd
  cases hd

theorem decode_encode (i : Instr) : decode (encode i) = .ok i := by
  have h : fieldsOf (encode i) = rawOf i := fieldsOf_wordOf (rawOf i)
  rw [decode_of_wellFormed (h ▸ rawOf_wellFormed i), h, instrOf_rawOf]

theorem encode_of_decode {w : CommandWord} {i : Instr} (h : decode w = .ok i) : encode i = w := by
  have hw : (fieldsOf w).wellFormed = true := by
    by_contra hn
    obtain ⟨d, hd⟩ := decode_of_not_wellFormed hn
    cases hd.symm.trans h
  rw [decode_of_wellFormed hw] at h
  rw [encode, rawOf_of_instrOf h, RawCommand.usedFields_of_wellFormed hw, wordOf_fieldsOf]

/-- R94 said of the number a word is, and said of its fields. -/
theorem illFormedWord_iff (w : CommandWord) :
    Machine.illFormedWord w ↔ ¬ (fieldsOf w).wellFormed = true := by
  have := w.isLt
  simp only [Machine.illFormedWord, RawCommand.wellFormed_iff, RawCommand.opDefined_iff,
    RawCommand.zeroClear_iff, RawCommand.verboseAllowed_iff, RawCommand.usesVerbose_iff,
    RawCommand.argAllowed_iff, RawCommand.usesArg_iff, fieldsOf_op_toNat, fieldsOf_v_iff,
    fieldsOf_zero_toNat, fieldsOf_arg_toNat]
  omega

end Sys2Proof
end

section
/-! PROOFS. The statements on the encoding of commands, on the step that takes a word, and on the side
ports. -/

namespace Sys2Proof.Machine

/-- Settles O1: a command's word has the fields of the command, and these are well-formed. -/
theorem decodeOfEncode : Obligations.DecodeOfEncode := decode_encode

/-- Settles O2: in a well-formed word the fields that the command does not use are zero. -/
theorem encodeOfDecode : Obligations.EncodeOfDecode := fun _ _ => encode_of_decode

/-- Settles O3: both sides say that the fields of the word are not well-formed. -/
theorem decodeRefusesIllFormed : Obligations.DecodeRefusesIllFormed := fun w =>
  (decode_error_iff w).trans (illFormedWord_iff w).symm

/-- Settles O48: no part of a command but the body of `DIFF` looks at the side ports. -/
theorem sidePortsReadByDiffAlone : Obligations.SidePortsReadByDiffAlone := fun s i ports hi =>
  exec_blind (blind_sidePorts ports) i (fun h => absurd h hi) s

/-- Settles O4: each of the five words is the encoding of its command. -/
theorem tableWordsDecode : Obligations.TableWordsDecode :=
  ⟨decode_encode (.decodeStatus 2), decode_encode (.read true), decode_encode (.writeControlBitSet 4),
    decode_encode .waitResetAsserted, decode_encode .unlock⟩

/-- Settles O7: the step by a command input, then the run of a word that decodes. -/
theorem stepRunsDecodedCommand : Obligations.StepRunsDecodedCommand := fun _ _ _ _ _ hs hw =>
  (step_of_command hs).trans (runWord_of_decode_ok hw _)

/-- Settles O9: the decoder answers an error for an ill-formed word, and the run of such a word refuses it. -/
theorem illFormedWordRefused : Obligations.IllFormedWordRefused := by
  intro s w ports rest hs hw
  obtain ⟨d, hd⟩ := (decodeRefusesIllFormed w).2 hw
  exact (step_of_command hs).trans (runWord_of_decode_error hd _)

end Sys2Proof.Machine
end

section
/-! SUPPORT. The comparison of two snapshots (40_codec.md R112): the fields and their ids, the entry a
field contributes, the bit it contributes to the mask; and the bits of the packed views (R81, R83). -/

namespace Sys2Proof.Machine

/-! ### The fields and their ids -/

/-- R112 lists each field at the place its id names. -/
theorem allFields_getElem?_fieldIndex (f : FieldId) : allFields[fieldIndex f]? = some f := by cases f <;> rfl

theorem mem_allFields (f : FieldId) : f ∈ allFields :=
  List.mem_of_getElem? (allFields_getElem?_fieldIndex f)

theorem fieldIndex_lt (f : FieldId) : fieldIndex f < 14 :=
  (List.getElem?_eq_some_iff.1 (allFields_getElem?_fieldIndex f)).1

theorem fieldIndex_inj {f g : FieldId} : fieldIndex f = fieldIndex g ↔ f = g := by
  refine ⟨fun h => ?_, congrArg fieldIndex⟩
  have hfg : some f = some g := by
    rw [← allFields_getElem?_fieldIndex f, h, allFields_getElem?_fieldIndex g]
  exact Option.some.inj hfg

/-- The fields of the Status register are functions of that register (R80). -/
theorem fieldValue_congr_status {a b : Snapshot} (h : a.status = b.status) {f : FieldId}
    (hf : fieldIndex f < 8) : fieldValue a f = fieldValue b f := by
  cases f <;> simp [fieldValue, fieldIndex, h] at hf ⊢

/-- The fields of the Control register likewise (R82). -/
theorem fieldValue_congr_control {a b : Snapshot} (h : a.control = b.control) {f : FieldId}
    (hf : 8 ≤ fieldIndex f) : fieldValue a f = fieldValue b f := by
  cases f <;> simp [fieldValue, fieldIndex, h] at hf ⊢

/-! ### The entries -/

/-- The entry of the same field when the snapshots change places. -/
def DiffEntry.swap (e : DiffEntry) : DiffEntry := ⟨e.field, e.new, e.old⟩

theorem diffEntry_eq_some_iff {old new : Snapshot} {f : FieldId} {e : DiffEntry} :
    diffEntry old new f = some e ↔
      fieldValue old f ≠ fieldValue new f ∧ e = ⟨f, fieldValue old f, fieldValue new f⟩ := by
  rw [diffEntry, Option.ite_none_left_eq_some, Option.some.injEq, eq_comm (a := e)]

theorem diffEntry_self (a : Snapshot) (f : FieldId) : diffEntry a a f = none := if_pos rfl

theorem diffEntry_swap (a b : Snapshot) (f : FieldId) :
    diffEntry b a f = (diffEntry a b f).map DiffEntry.swap := by
  by_cases h : fieldValue a f = fieldValue b f
  · simp [diffEntry, h]
  · simp [diffEntry, h, Ne.symm h, DiffEntry.swap]

theorem diffEntry_map_field (old new : Snapshot) (f : FieldId) :
    (diffEntry old new f).map DiffEntry.field =
      Option.guard (fun f => decide (fieldValue old f ≠ fieldValue new f)) f := by
  by_cases h : fieldValue old f = fieldValue new f <;> simp [diffEntry, Option.guard, h]

theorem mem_diffEntries {old new : Snapshot} {e : DiffEntry} :
    e ∈ diffEntries old new ↔ fieldValue old e.field ≠ fieldValue new e.field ∧
      e.old = fieldValue old e.field ∧ e.new = fieldValue new e.field := by
  simp only [diffEntries, List.mem_filterMap, mem_allFields, true_and, diffEntry_eq_some_iff]
  constructor
  · rintro ⟨f, hne, rfl⟩
    exact ⟨hne, rfl, rfl⟩
  · rintro ⟨hne, hold, hnew⟩
    exact ⟨e.field, hne, by rw [← hold, ← hnew]⟩

theorem diffEntries_map_field (old new : Snapshot) : (diffEntries old new).map DiffEntry.field =
    allFields.filter (fun f => decide (fieldValue old f ≠ fieldValue new f)) := by
  rw [diffEntries, List.map_filterMap, ← List.filterMap_eq_filter]
  simp only [diffEntry_map_field]

theorem diffEntries_self (a : Snapshot) : diffEntries a a = [] :=
  List.filterMap_eq_nil_iff.2 fun f _ => diffEntry_self a f

theorem diffEntries_swap (a b : Snapshot) : diffEntries b a = (diffEntries a b).map DiffEntry.swap := by
  rw [diffEntries, diffEntries, List.map_filterMap]
  simp only [← diffEntry_swap]

/-! ### The mask -/

/-- What one field does to the mask under construction. -/
def addChange (old new : Snapshot) (chg : BitVec 14) (f : FieldId) : BitVec 14 :=
  if fieldValue old f = fieldValue new f then chg else chg ||| (1#14 <<< fieldIndex f)

theorem changeMask_eq_foldl (old new : Snapshot) :
    changeMask old new = allFields.foldl (addChange old new) 0#14 := rfl

theorem addChange_self (a : Snapshot) : addChange a a = fun chg _ => chg := by
  funext chg f
  exact if_pos rfl

theorem addChange_comm (a b : Snapshot) : addChange b a = addChange a b := by
  funext chg f
  simp only [addChange, eq_comm]

theorem getLsbD_one_shiftLeft_fieldIndex (f g : FieldId) :
    (1#14 <<< fieldIndex g).getLsbD (fieldIndex f) = decide (f = g) := by
  rw [← BitVec.twoPow_eq, BitVec.getLsbD_twoPow]
  simp [fieldIndex_lt, fieldIndex_inj, eq_comm]

theorem getLsbD_addChange (old new : Snapshot) (chg : BitVec 14) (f g : FieldId) :
    (addChange old new chg g).getLsbD (fieldIndex f) =
      (chg.getLsbD (fieldIndex f) || decide (f = g ∧ fieldValue old f ≠ fieldValue new f)) := by
  rw [addChange]
  split
  case isTrue h =>
    have : ¬ (f = g ∧ fieldValue old f ≠ fieldValue new f) := by
      rintro ⟨rfl, hne⟩
      exact hne h
    simp [this]
  case isFalse h =>
    rw [BitVec.getLsbD_or, getLsbD_one_shiftLeft_fieldIndex]
    congr 2
    exact propext ⟨fun hfg => ⟨hfg, hfg ▸ h⟩, And.left⟩

theorem getLsbD_foldl_addChange (old new : Snapshot) (f : FieldId) (fields : List FieldId)
    (chg : BitVec 14) : (fields.foldl (addChange old new) chg).getLsbD (fieldIndex f) =
      (chg.getLsbD (fieldIndex f) || decide (f ∈ fields ∧ fieldValue old f ≠ fieldValue new f)) := by
  induction fields generalizing chg with
  | nil => simp
  | cons g fields ih =>
    rw [List.foldl_cons, ih, getLsbD_addChange, Bool.or_assoc, ← Bool.decide_or]
    simp only [List.mem_cons, or_and_right]

theorem getLsbD_changeMask (old new : Snapshot) (f : FieldId) :
    (changeMask old new).getLsbD (fieldIndex f) = decide (fieldValue old f ≠ fieldValue new f) := by
  rw [changeMask_eq_foldl, getLsbD_foldl_addChange]
  simp [mem_allFields]

theorem changeMask_self (a : Snapshot) : changeMask a a = 0 := by
  rw [changeMask_eq_foldl, addChange_self]
  exact List.foldl_fixed _

theorem changeMask_comm (a b : Snapshot) : changeMask b a = changeMask a b := by
  rw [changeMask_eq_foldl, changeMask_eq_foldl, addChange_comm]

/-! ### The packed views -/

/-- `zext_32` of a packed view keeps its bits (R16). -/
theorem getLsbD_setWidth_of_le {n m : Nat} (h : n ≤ m) (x : BitVec n) (k : Nat) :
    (x.setWidth m).getLsbD k = x.getLsbD k := by
  rw [BitVec.getLsbD_setWidth, Bool.and_eq_right_iff_imp]
  exact fun hk => decide_eq_true ((BitVec.lt_of_getLsbD hk).trans_le h)

/-- `SVIEW` packs Status bits 3:0 and 18:16 (R81). -/
theorem getLsbD_sview_decodeStatus (v : Word) (k : Nat) : (sview (decodeStatus v)).getLsbD k =
    if k < 4 then v.getLsbD k else if k < 7 then v.getLsbD (k + 12) else false := by
  rcases Nat.lt_or_ge k 7 with hk | hk
  · simp only [sview, decodeStatus, BitVec.getLsbD_append, BitVec.getLsbD_ofBool]
    interval_cases k <;> simp
  · rw [BitVec.getLsbD_of_ge _ k hk, if_neg (by omega), if_neg (by omega)]

/-- `CVIEW` packs Control bits 4:0 (R83). -/
theorem getLsbD_cview_decodeControl (v : Word) (k : Nat) : (cview (decodeControl v)).getLsbD k =
    if k < 5 then v.getLsbD k else false := by
  rcases Nat.lt_or_ge k 5 with hk | hk
  · simp only [cview, decodeControl, BitVec.getLsbD_append, BitVec.getLsbD_ofBool]
    interval_cases k <;> simp
  · rw [BitVec.getLsbD_of_ge _ k hk, if_neg (by omega)]

/-! ### The three commands -/

theorem exec_decodeStatus (value : Word) (s : State) : exec (.decodeStatus value) s =
    .next (s.succeeded value ((sview (decodeStatus value)).setWidth 32)) := rfl

theorem exec_decodeControl (value : Word) (s : State) : exec (.decodeControl value) s =
    .next (s.succeeded value ((cview (decodeControl value)).setWidth 32)) := rfl

theorem exec_diff (s : State) : exec .diff s =
    .next (s.codecDone ((changeMask (oldOperand s.sidePorts) (newOperand s.sidePorts)).setWidth 32) 0
      (diffEntries (oldOperand s.sidePorts) (newOperand s.sidePorts))) := rfl

end Sys2Proof.Machine
end

section
/-! PROOFS. The statements on the Register Codec: the two decodes, the laws of the views, and `DIFF`. -/

namespace Sys2Proof.Machine

/-- Settles O15: the entries are those of the fields that differ, and each sets its bit of the mask. -/
theorem diffCommand : Obligations.DiffCommand := fun s =>
  ⟨changeMask _ _, diffEntries _ _, exec_diff s, getLsbD_changeMask _ _, diffEntries_map_field _ _,
    fun _ he => (mem_diffEntries.1 he).2⟩

/-- Settles O17: fields of one register that differ are functions of registers that differ. -/
theorem flagChangeShowsInValue : Obligations.FlagChangeShowsInValue := by
  intro a b e he
  obtain ⟨hne, -⟩ := mem_diffEntries.1 he
  refine ⟨fun hf => mem_diffEntries.2 ⟨fun h => hne ?_, rfl, rfl⟩,
    fun hf => mem_diffEntries.2 ⟨fun h => hne ?_, rfl, rfl⟩⟩
  · exact fieldValue_congr_status h (Nat.lt_succ_of_lt hf)
  · exact fieldValue_congr_control h hf

/-- Settles O11: `d1` is the packed view, widened with zeros. -/
theorem decodeStatusCommand : Obligations.DecodeStatusCommand := fun s v =>
  ⟨_, exec_decodeStatus v s,
    fun k => (getLsbD_setWidth_of_le (by decide) _ k).trans (getLsbD_sview_decodeStatus v k)⟩

/-- Settles O12: as O11, with the five flags of Control. -/
theorem decodeControlCommand : Obligations.DecodeControlCommand := fun s v =>
  ⟨_, exec_decodeControl v s,
    fun k => (getLsbD_setWidth_of_le (by decide) _ k).trans (getLsbD_cview_decodeControl v k)⟩

/-- Settles O13: the views read single bits, so each law is the law of `OR` and `AND` on the bits read. -/
theorem codecLaws : Obligations.CodecLaws := by
  refine ⟨fun _ => rfl, fun _ => rfl, fun base mask => ?_, fun v => ?_, fun v => ?_⟩
  · simp only [decodeControl, BitVec.getLsbD_or]
  · simp [decodeStatus]
  · simp [decodeControl]

/-- Settles O16: equal values contribute nothing, and difference is symmetric. -/
theorem diffLaws : Obligations.DiffLaws :=
  ⟨fun a => ⟨diffEntries_self a, changeMask_self a⟩, fun a b => ⟨diffEntries_swap a b, changeMask_comm a b⟩⟩

end Sys2Proof.Machine
end

section
/-! SUPPORT. The commands of the session family in a session (41_session_access.md): how a command that
rests on one reload or on one Control write ends, and which command each of the others then equals. -/

namespace Sys2Proof.Machine

/-! ### A command that reloads (R119) -/

section Reload

variable {s : State} {body : State → Ending (Word × Word)} {k : Word × Word → State → Ending (Word × Word)}

/-- Both reads answered: the body goes on from there, and its state is the next one. -/
theorem standalone_reload_ok {st ct d0 d1 : Word} {u : State}
    (hb : body s.accept = (reload s.accept).andThen k) (h : s.upcoming 2 = [.ok st, .ok ct])
    (hk : k (st, ct) (s.accept.after 2 (reloadEvents st ct)) = .ok (d0, d1) u.accept) :
    standalone body s = u.succeeded d0 d1 := by
  rw [standalone, hb, reload_ok (s := s.accept) h, Ending.andThen_ok]
  exact congrArg Ending.finish hk

/-- The first read fails: the second one is not issued (R185). -/
theorem standalone_reload_err_status (hb : body s.accept = (reload s.accept).andThen k)
    (h : s.upcoming 1 = [.err]) :
    standalone body s = (s.after 1 [.apRead 1 0 none]).failedIn .regReadFailure 0 := by
  rw [standalone, hb, reload_err_status (s := s.accept) h]
  rfl

theorem standalone_reload_err_control {st : Word} (hb : body s.accept = (reload s.accept).andThen k)
    (h : s.upcoming 2 = [.ok st, .err]) :
    standalone body s =
      (s.after 2 [.apRead 1 0 (some st), .apRead 1 4 none]).failedIn .regReadFailure 0 := by
  rw [standalone, hb, reload_err_control (s := s.accept) h]
  rfl

end Reload

/-- The log item of a verbose reload follows its two reads (R120, R122). -/
theorem State.logSnapshot_loadSnapshot_after (s : State) (verbose : Bool) (st ct : Word) (n : Nat)
    (evs : List Event) : ((s.after n evs).loadSnapshot st ct).logSnapshot verbose st ct =
      (s.after n (evs ++ if verbose then [.log (.snapshot st ct)] else [])).loadSnapshot st ct := by
  cases verbose <;> simp [State.logSnapshot, State.log, State.emit, State.loadSnapshot, State.after]

/-- The two items of a report likewise (R123). -/
theorem State.loadSnapshot_log_log_after (s : State) (a b : LogItem) (st ct : Word) (n : Nat)
    (evs : List Event) : (((s.after n evs).log a).log b).loadSnapshot st ct =
      (s.after n (evs ++ [.log a, .log b])).loadSnapshot st ct := by
  simp [State.log_eq_after]

/-- In a session a refresh does what an initial read does (R120, R122). -/
theorem exec_refresh_of_session {s : State} {sn : Snapshot} (hs : s.snap = some sn) (v : Bool) :
    exec (.refresh v) s = exec (.read v) s := by
  have hb : refreshProc v s.accept = readProc v s.accept := by
    rw [refreshProc, session_some (s := s.accept) hs, Ending.andThen_ok, readProc]
  rw [exec_refresh, exec_read, standalone, hb, standalone]

/-- In a session the diff of a report is against the snapshot before the call (R123). -/
theorem refreshAndReportProc_of_session {s : State} {old : Snapshot} (hs : s.snap = some old)
    (label : Word) : refreshAndReportProc label s = (reload s).andThen fun r s =>
      .ok r (((s.log (.reason label)).log (.diff (diffEntries old ⟨r.1, r.2⟩))).loadSnapshot r.1 r.2) := by
  rw [refreshAndReportProc, session_some hs, Ending.andThen_ok]

/-! ### A command that writes Control once (R124 to R127) -/

theorem exec_writeControlRaw_of_session {s : State} {sn : Snapshot} (hs : s.snap = some sn)
    (value : Word) :
    exec (.writeControlRaw value) s = .next (apWriteControl value s.accept).noData.finish := by
  rw [exec_writeControlRaw, standalone, writeControlRawProc, session_some (s := s.accept) hs, Ending.andThen_ok]

/-- In a session a bit-set is the raw write of the baseline with the mask's bits set (R125). -/
theorem exec_writeControlBitSet_of_session {s : State} {sn : Snapshot} (hs : s.snap = some sn)
    (mask : Word) : exec (.writeControlBitSet mask) s = exec (.writeControlRaw (sn.control ||| mask)) s := by
  rw [exec_writeControlBitSet, exec_writeControlRaw_of_session hs, standalone,
    writeControlBitSetProc, session_some (s := s.accept) hs, Ending.andThen_ok, setBits]

/-- In a session a bit-clear is the raw write of the baseline with the mask's bits clear (R126). -/
theorem exec_writeControlBitClear_of_session {s : State} {sn : Snapshot} (hs : s.snap = some sn)
    (mask : Word) :
    exec (.writeControlBitClear mask) s = exec (.writeControlRaw (sn.control &&& ~~~mask)) s := by
  rw [exec_writeControlBitClear, exec_writeControlRaw_of_session hs, standalone,
    writeControlBitClearProc, session_some (s := s.accept) hs, Ending.andThen_ok, clearBits]

/-- With or without a session, `CLEAR_RESET_REQUEST` is the bit-clear of bit 3 (R127, R97). -/
theorem exec_clearResetRequest_eq_bitClear (s : State) :
    exec .clearResetRequest s = exec (.writeControlBitClear 0x00000008#32) s := by
  rw [exec_clearResetRequest, exec_writeControlBitClear]
  rfl

/-! ### The bits of a mask set and cleared again (R128) -/

theorem or_and_not_eq_and_not {n : Nat} (b m : BitVec n) : (b ||| m) &&& ~~~m = b &&& ~~~m := by
  rw [BitVec.and_or_distrib_right, BitVec.and_not_self]
  exact BitVec.or_zero

/-- Clearing the mask's bits changes nothing exactly when they are clear already. -/
theorem and_not_eq_self_iff {n : Nat} (b m : BitVec n) : b &&& ~~~m = b ↔ b &&& m = 0 := by
  constructor
  · intro h
    rw [← h, BitVec.and_assoc, BitVec.and_comm (~~~m), BitVec.and_not_self]
    exact BitVec.and_zero
  · intro h
    have hb : b &&& m ||| b &&& ~~~m = b := by
      rw [← BitVec.and_or_distrib_left, BitVec.or_not_self, BitVec.and_allOnes]
    simpa [h] using hb

end Sys2Proof.Machine
end

section
/-! PROOFS. The statements on the session family: the reads, the refreshes, the Control writes, and a set
and a clear of one mask. -/

namespace Sys2Proof.Machine

/-- Settles O18: by the answers to the two reads of the reload. -/
theorem readCommand : Obligations.ReadCommand := by
  intro s v st ct
  rw [exec_read]
  refine ⟨fun h => congrArg _ ?_, fun h => congrArg _ ?_, fun h => congrArg _ ?_⟩
  · exact standalone_reload_ok rfl h
      (congrArg (Ending.ok _) (State.logSnapshot_loadSnapshot_after s.accept v st ct 2 _))
  · exact standalone_reload_err_status rfl h
  · exact standalone_reload_err_control rfl h

/-- Settles O19: one read, answered or not. -/
theorem readIdrCommand : Obligations.ReadIdrCommand := by
  intro s r
  rw [exec_readIdr, standalone, readIdrProc]
  refine ⟨fun h => congrArg _ ?_, fun h => congrArg _ ?_⟩
  · rw [apRead_ok (s := s.accept) ((s.nextReply_eq_iff _).2 h)]
    rfl
  · rw [apRead_err (s := s.accept) ((s.nextReply_eq_iff _).2 h)]
    rfl

/-- Settles O20: in a session as `READ`, without one refused. -/
theorem refreshCommand : Obligations.RefreshCommand := by
  intro s v sn st ct
  obtain ⟨hok, hstatus, hcontrol⟩ := readCommand s v st ct
  exact ⟨fun hs h => (exec_refresh_of_session hs v).trans (hok h),
    fun hs h => (exec_refresh_of_session hs v).trans (hstatus h),
    fun hs h => (exec_refresh_of_session hs v).trans (hcontrol h), exec_of_no_session rfl⟩

/-- Settles O21: by the answers to the two reads of the reload; nothing is logged before them. -/
theorem refreshAndReportCommand : Obligations.RefreshAndReportCommand := by
  intro s label sn st ct
  have hb (hs : s.snap = some sn) := refreshAndReportProc_of_session (s := s.accept) hs label
  refine ⟨fun hs h => ?_, fun hs h => ?_, fun hs h => ?_, exec_of_no_session rfl⟩
  · rw [exec_refreshAndReport]
    exact congrArg _ (standalone_reload_ok (hb hs) h
      (congrArg (Ending.ok _) (State.loadSnapshot_log_log_after s.accept _ _ st ct 2 _)))
  · rw [exec_refreshAndReport, standalone_reload_err_status (hb hs) h]
  · rw [exec_refreshAndReport, standalone_reload_err_control (hb hs) h]

/-- Settles O22: in a session the one write, answered or not; without one refused. -/
theorem writeControlRawCommand : Obligations.WriteControlRawCommand := by
  intro s value x sn
  refine ⟨fun hs h => ?_, fun hs h => ?_, exec_of_no_session rfl⟩
  · rw [exec_writeControlRaw_of_session hs,
      apWriteControl_ok (s := s.accept) ((s.nextReply_eq_iff _).2 h)]
    rfl
  · rw [exec_writeControlRaw_of_session hs,
      apWriteControl_err (s := s.accept) ((s.nextReply_eq_iff _).2 h)]
    rfl

/-- Settles O23: in a session a raw write of the baseline OR the mask. -/
theorem writeControlBitSetCommand : Obligations.WriteControlBitSetCommand := by
  intro s mask x sn
  obtain ⟨hok, herr, -⟩ := writeControlRawCommand s (sn.control ||| mask) x sn
  exact ⟨fun hs h => (exec_writeControlBitSet_of_session hs mask).trans (hok hs h),
    fun hs h => (exec_writeControlBitSet_of_session hs mask).trans (herr hs h), exec_of_no_session rfl⟩

/-- Settles O24: in a session a raw write of the baseline AND the complement of the mask. -/
theorem writeControlBitClearCommand : Obligations.WriteControlBitClearCommand := by
  intro s mask x sn
  obtain ⟨hok, herr, -⟩ := writeControlRawCommand s (sn.control &&& ~~~mask) x sn
  exact ⟨fun hs h => (exec_writeControlBitClear_of_session hs mask).trans (hok hs h),
    fun hs h => (exec_writeControlBitClear_of_session hs mask).trans (herr hs h), exec_of_no_session rfl⟩

/-- Settles O25: the bit-clear of bit 3, whose complement is `0xFFFFFFF7`. -/
theorem clearResetRequestCommand : Obligations.ClearResetRequestCommand := by
  intro s x sn
  rw [exec_clearResetRequest_eq_bitClear]
  obtain ⟨hok, herr, hno⟩ := writeControlBitClearCommand s 0x00000008#32 x sn
  exact ⟨hok, herr, hno, rfl⟩

/-- Settles O27: the set leaves the snapshot, so the clear starts from the same baseline. -/
theorem setThenClear : Obligations.SetThenClear := by
  intro s m st b x y hs h
  obtain ⟨hx, hy⟩ := (s.upcoming_cons 1 _ _ [.apWrite 1 4 (b ||| m) true]).1 h
  obtain ⟨hset, -⟩ := writeControlBitSetCommand s m x ⟨st, b⟩
  obtain ⟨hclear, -⟩ := writeControlBitClearCommand
    ((s.after 1 [.apWrite 1 4 (b ||| m) true]).succeeded 0 0) m y ⟨st, b⟩
  refine ⟨_, _, hset hs ((s.nextReply_eq_iff _).1 hx), hclear hs hy, ?_, or_and_not_eq_and_not b m,
    and_not_eq_self_iff b m⟩
  simp [State.succeeded]

end Sys2Proof.Machine
end

section
/-! SUPPORT. The two waits in a session, answer by answer (42_session_polling.md): the state in the middle
of a wait, and how each wait goes on from there. -/

namespace Sys2Proof.Machine

/-! ### The state in the middle of a wait -/

/-- `s` in a wait, after `n` answers and the events `evs`: the snapshot is `sn`, and `k` polls are counted. -/
def State.inWait (s : State) (n : Nat) (evs : List Event) (sn : Snapshot) (k : Nat) : State :=
  { s.after n evs with snap := some sn, pollCnt := k }

section InWait

variable {s : State} {sn : Snapshot} {n k : Nat} {evs : List Event}

/-- A wait starts by clearing the counter (R141, R142). -/
theorem State.clearPolls_eq_inWait (hs : s.snap = some sn) : s.clearPolls = s.inWait 0 [] sn 0 := by
  simp [State.inWait, State.clearPolls, State.after, hs]

@[simp] theorem State.inWait_config : (s.inWait n evs sn k).config = s.config := rfl

@[simp] theorem State.inWait_after (m : Nat) (b : List Event) :
    (s.inWait n evs sn k).after m b = s.inWait (n + m) (evs ++ b) sn k := by
  simp [State.inWait, State.after, Nat.add_comm, Nat.add_left_comm]

@[simp] theorem State.inWait_loadSnapshot (st ct : Word) :
    (s.inWait n evs sn k).loadSnapshot st ct = s.inWait n evs ⟨st, ct⟩ k := rfl

@[simp] theorem State.inWait_afterPolls (vs : List Word) (b : List Event) :
    (s.inWait n evs sn k).afterPolls vs b =
      s.inWait (n + vs.length) (evs ++ b) ⟨vs.getLast?.getD sn.status, sn.control⟩ (k + vs.length) := by
  rw [State.afterPolls, State.inWait_after]
  rfl

/-- The answers still to come in the middle of a wait are those after the ones taken. -/
theorem State.inWait_upcoming {m : Nat} {as bs : List Reply} (h : s.upcoming (n + m) = as ++ bs)
    (hn : as.length = n) : (s.inWait n evs sn k).upcoming m = bs :=
  (State.upcoming_append evs h hn).2

theorem State.inWait_nextReply {as : List Reply} {r : Reply} (h : s.upcoming (n + 1) = as ++ [r])
    (hn : as.length = n) : (s.inWait n evs sn k).nextReply = r :=
  (State.nextReply_eq_iff _ r).2 (State.inWait_upcoming h hn)

end InWait

/-- A command without result data ends as its body does. -/
theorem standalone_noData (body : State → Ending Unit) (s : State) :
    standalone (fun s => (body s).noData) s = (body s.accept).noData.finish := rfl

/-! ### `WAIT_RESET_ASSERTED` (R141) -/

section Reset

variable {s : State} {sn : Snapshot} {x w : Word} {vs : List Word}

/-- In a session the wait is the write of `0x8`, then the polls. -/
theorem waitResetAssertedProc_of_session (hs : s.snap = some sn) : waitResetAssertedProc s =
    (apWriteControl 0x00000008#32 s.clearPolls).andThen fun _ t =>
      resetLoop t.config.resetPollMax t := by
  rw [waitResetAssertedProc, session_some hs, Ending.andThen_ok]
  rfl

theorem waitResetAssertedProc_err_write (hs : s.snap = some sn) (h : s.upcoming 1 = [.err]) :
    waitResetAssertedProc s =
      .fail .regWriteFailure (s.clearPolls.after 1 [.apWrite 1 4 0x00000008#32 false]) := by
  have hw : s.clearPolls.nextReply = .err := (s.nextReply_eq_iff _).2 h
  rw [waitResetAssertedProc_of_session hs, apWriteControl_err hw, Ending.andThen_fail]

/-- After the write and the polls `vs` that read bit 3 as 1, the rest of the budget is left. -/
theorem waitResetAssertedProc_polls {n : Nat} (hs : s.snap = some sn)
    (hv : ∀ v ∈ vs, v.getLsbD 3 = true) (hn : s.config.resetPollMax = vs.length + n)
    (h : s.upcoming (1 + vs.length) = .ok x :: vs.map .ok) :
    waitResetAssertedProc s = resetLoop n (s.inWait (1 + vs.length)
      (.apWrite 1 4 0x00000008#32 true :: delayedPolls s.config.resetPollDelayMs vs)
      ⟨vs.getLast?.getD sn.status, sn.control⟩ vs.length) := by
  have hx : s.upcoming 1 = [.ok x] := (State.upcoming_append [] (as := [_]) h rfl).1
  have hw : (s.inWait 0 [] sn 0).nextReply = .ok x := (s.nextReply_eq_iff _).2 hx
  rw [waitResetAssertedProc_of_session hs, State.clearPolls_eq_inWait hs, apWriteControl_ok hw,
    Ending.andThen_ok, State.inWait_after, State.inWait_config, hn,
    resetLoop_polls vs n _ hv (State.inWait_upcoming (as := [_]) h rfl)]
  simp

/-- The poll that reads `w` sees the reset. -/
theorem waitResetAssertedProc_seen (hs : s.snap = some sn) (hv : ∀ v ∈ vs, v.getLsbD 3 = true)
    (hn : vs.length < s.config.resetPollMax) (hw : w.getLsbD 3 = false)
    (h : s.upcoming (1 + vs.length + 1) = .ok x :: (vs.map .ok ++ [.ok w])) :
    waitResetAssertedProc s = .ok () (s.inWait (1 + vs.length + 1)
      (.apWrite 1 4 0x00000008#32 true :: (delayedPolls s.config.resetPollDelayMs vs ++
        [.apRead 1 0 (some w)])) ⟨w, sn.control⟩ (vs.length + 1)) := by
  have hl : (Reply.ok x :: vs.map Reply.ok).length = 1 + vs.length := by simp [Nat.add_comm]
  obtain ⟨m, hm⟩ := Nat.exists_eq_add_of_lt hn
  rw [waitResetAssertedProc_polls (n := m + 1) hs hv hm (State.upcoming_append [] (as := _ :: _) h hl).1,
    resetLoop_seen hw (Nat.zero_lt_succ m) (State.inWait_nextReply (as := _ :: _) h hl),
    State.inWait_afterPolls]
  rfl

/-- No poll sees the reset within the budget (R188). -/
theorem waitResetAssertedProc_unseen (hs : s.snap = some sn) (hv : ∀ v ∈ vs, v.getLsbD 3 = true)
    (hn : vs.length = s.config.resetPollMax) (h : s.upcoming (1 + vs.length) = .ok x :: vs.map .ok) :
    waitResetAssertedProc s = .fail .timeoutReset (s.inWait (1 + vs.length)
      (.apWrite 1 4 0x00000008#32 true :: delayedPolls s.config.resetPollDelayMs vs)
      ⟨vs.getLast?.getD sn.status, sn.control⟩ vs.length) :=
  waitResetAssertedProc_polls (n := 0) hs hv hn.symm h

/-- A poll fails where that ends the command (R140). -/
theorem waitResetAssertedProc_err_poll (p : s.config.pollReadErrPolicy = .abort) (hs : s.snap = some sn)
    (hv : ∀ v ∈ vs, v.getLsbD 3 = true) (hn : vs.length < s.config.resetPollMax)
    (h : s.upcoming (1 + vs.length + 1) = .ok x :: (vs.map .ok ++ [.err])) :
    waitResetAssertedProc s = .fail .regReadFailure (s.inWait (1 + vs.length + 1)
      (.apWrite 1 4 0x00000008#32 true :: (delayedPolls s.config.resetPollDelayMs vs ++
        [.apRead 1 0 none])) ⟨vs.getLast?.getD sn.status, sn.control⟩ vs.length) := by
  have hl : (Reply.ok x :: vs.map Reply.ok).length = 1 + vs.length := by simp [Nat.add_comm]
  obtain ⟨m, hm⟩ := Nat.exists_eq_add_of_lt hn
  rw [waitResetAssertedProc_polls (n := m + 1) hs hv hm (State.upcoming_append [] (as := _ :: _) h hl).1,
    resetLoop_err (s := s.inWait _ _ _ _) p (Nat.zero_lt_succ m) (State.inWait_nextReply (as := _ :: _) h hl),
    State.inWait_after]
  rfl

end Reset

/-! ### `WAIT_FLASH_READY` (R142) -/

theorem quietRefresh_ok {s : State} {st ct : Word} (h : s.upcoming 2 = [.ok st, .ok ct]) :
    quietRefresh s = .ok () ((s.after 2 (reloadEvents st ct)).loadSnapshot st ct) := by
  rw [quietRefresh, reload_ok h]
  rfl

theorem quietRefresh_err_status {s : State} (h : s.upcoming 1 = [.err]) :
    quietRefresh s = .fail .regReadFailure (s.after 1 [.apRead 1 0 none]) := by
  rw [quietRefresh, reload_err_status h]
  rfl

theorem quietRefresh_err_control {s : State} {st : Word} (h : s.upcoming 2 = [.ok st, .err]) :
    quietRefresh s = .fail .regReadFailure (s.after 2 [.apRead 1 0 (some st), .apRead 1 4 none]) := by
  rw [quietRefresh, reload_err_control h]
  rfl

/-- The end of a flash wait: the closing refresh, then the verdict of the polls (R142). -/
def closeFlashWait (seen : Bool) (s : State) : Ending Unit :=
  (quietRefresh s).andThen fun _ t => if seen then .ok () t else .fail .timeoutFlashReady t

section Flash

variable {s : State} {sn : Snapshot} {s0 c0 w : Word} {vs : List Word}

/-- In a session the wait is the opening refresh, the polls, and its end. -/
theorem waitFlashReadyProc_of_session (hs : s.snap = some sn) : waitFlashReadyProc s =
    (quietRefresh s.clearPolls).andThen fun _ t =>
      (flashLoop t.config.flashPollMax t).andThen closeFlashWait := by
  rw [waitFlashReadyProc, session_some hs, Ending.andThen_ok]
  rfl

/-- A failed opening refresh ends the wait (R142). -/
theorem waitFlashReadyProc_err_open {c : Cause} {t : State} (hs : s.snap = some sn)
    (h : quietRefresh s.clearPolls = .fail c t) : waitFlashReadyProc s = .fail c t := by
  rw [waitFlashReadyProc_of_session hs, h, Ending.andThen_fail]

/-- After the opening refresh and the polls `vs` that read bit 1 as 0, the rest of the budget is left. -/
theorem waitFlashReadyProc_polls {n : Nat} (hs : s.snap = some sn) (hv : ∀ v ∈ vs, v.getLsbD 1 = false)
    (hd : s.config.flashPollDelayMs = none) (hn : s.config.flashPollMax = vs.length + n)
    (h : s.upcoming (2 + vs.length) = [.ok s0, .ok c0] ++ vs.map .ok) :
    waitFlashReadyProc s = (flashLoop n (s.inWait (2 + vs.length) (reloadEvents s0 c0 ++ plainPolls vs)
      ⟨vs.getLast?.getD s0, c0⟩ vs.length)).andThen closeFlashWait := by
  have h0 : (s.inWait 0 [] sn 0).upcoming 2 = [.ok s0, .ok c0] := (State.upcoming_append [] h rfl).1
  rw [waitFlashReadyProc_of_session hs, State.clearPolls_eq_inWait hs, quietRefresh_ok h0,
    Ending.andThen_ok, State.inWait_after, State.inWait_loadSnapshot, State.inWait_config, hn,
    flashLoop_polls vs n (s.inWait _ _ _ _) hv hd (State.inWait_upcoming h rfl)]
  simp

/-- The answers to an opening refresh and to polls, counted. -/
theorem length_openingReplies (s0 c0 : Word) (vs : List Word) :
    ([.ok s0, .ok c0] ++ vs.map Reply.ok : List Reply).length = 2 + vs.length := by
  simp only [List.length_append, List.length_map, List.length_cons, List.length_nil]

/-- No poll sees bit 1 within the budget; the answers `rest` are left for the end of the wait. -/
theorem waitFlashReadyProc_unseen {m : Nat} {rest : List Reply} (hs : s.snap = some sn)
    (hv : ∀ v ∈ vs, v.getLsbD 1 = false) (hd : s.config.flashPollDelayMs = none)
    (hn : vs.length = s.config.flashPollMax)
    (h : s.upcoming (2 + vs.length + m) = [.ok s0, .ok c0] ++ vs.map .ok ++ rest) :
    ∃ t, t = s.inWait (2 + vs.length) (reloadEvents s0 c0 ++ plainPolls vs) ⟨vs.getLast?.getD s0, c0⟩ vs.length ∧
      waitFlashReadyProc s = closeFlashWait false t ∧ t.upcoming m = rest := by
  obtain ⟨hpolls, hrest⟩ := State.upcoming_append [] h (length_openingReplies s0 c0 vs)
  exact ⟨_, rfl, waitFlashReadyProc_polls (n := 0) hs hv hd hn.symm hpolls, hrest⟩

/-- The poll that reads `w` sees bit 1; the answers `rest` are left for the end of the wait. -/
theorem waitFlashReadyProc_seen {m : Nat} {rest : List Reply} (hs : s.snap = some sn)
    (hv : ∀ v ∈ vs, v.getLsbD 1 = false) (hd : s.config.flashPollDelayMs = none)
    (hn : vs.length < s.config.flashPollMax) (hw : w.getLsbD 1 = true)
    (h : s.upcoming (2 + vs.length + (m + 1)) = [.ok s0, .ok c0] ++ vs.map .ok ++ .ok w :: rest) :
    ∃ t, t = s.inWait (2 + vs.length + 1) (reloadEvents s0 c0 ++ plainPolls vs ++ [.apRead 1 0 (some w)])
        ⟨w, c0⟩ (vs.length + 1) ∧
      waitFlashReadyProc s = closeFlashWait true t ∧ t.upcoming m = rest := by
  obtain ⟨hpolls, hrest⟩ := State.upcoming_append [] h (length_openingReplies s0 c0 vs)
  obtain ⟨n, hn'⟩ := Nat.exists_eq_add_of_lt hn
  obtain ⟨hseen, hrest⟩ := (State.upcoming_cons _ m _ _ [.apRead 1 0 (some w)]).1 hrest
  refine ⟨_, rfl, ?_, ?_⟩
  · rw [waitFlashReadyProc_polls (n := n + 1) hs hv hd hn' hpolls,
      flashLoop_seen (s := s.inWait _ _ _ _) hw (Nat.zero_lt_succ n) hseen, Ending.andThen_ok,
      State.inWait_afterPolls]
    rfl
  · rw [State.after_after] at hrest
    exact hrest

/-- A poll fails where that ends the command: no closing refresh is made (R142). -/
theorem waitFlashReadyProc_err_poll (p : s.config.pollReadErrPolicy = .abort) (hs : s.snap = some sn)
    (hv : ∀ v ∈ vs, v.getLsbD 1 = false) (hd : s.config.flashPollDelayMs = none)
    (hn : vs.length < s.config.flashPollMax)
    (h : s.upcoming (2 + vs.length + 1) = [.ok s0, .ok c0] ++ vs.map .ok ++ [.err]) :
    waitFlashReadyProc s = .fail .regReadFailure (s.inWait (2 + vs.length + 1)
      (reloadEvents s0 c0 ++ plainPolls vs ++ [.apRead 1 0 none]) ⟨vs.getLast?.getD s0, c0⟩ vs.length) := by
  have hl := length_openingReplies s0 c0 vs
  obtain ⟨m, hm⟩ := Nat.exists_eq_add_of_lt hn
  rw [waitFlashReadyProc_polls (n := m + 1) hs hv hd hm (State.upcoming_append [] h hl).1,
    flashLoop_err (s := s.inWait _ _ _ _) p (Nat.zero_lt_succ m) (State.inWait_nextReply h hl),
    Ending.andThen_fail, State.inWait_after]

end Flash

section Close

variable {s : State} {s1 c1 : Word} {seen : Bool}

theorem closeFlashWait_ok (h : s.upcoming 2 = [.ok s1, .ok c1]) : closeFlashWait seen s =
    if seen then .ok () ((s.after 2 (reloadEvents s1 c1)).loadSnapshot s1 c1)
    else .fail .timeoutFlashReady ((s.after 2 (reloadEvents s1 c1)).loadSnapshot s1 c1) := by
  rw [closeFlashWait, quietRefresh_ok h, Ending.andThen_ok]

/-- A closing refresh whose first read fails is reported whatever the polls saw (R142, R183). -/
theorem closeFlashWait_err_status (h : s.upcoming 1 = [.err]) :
    closeFlashWait seen s = .fail .regReadFailure (s.after 1 [.apRead 1 0 none]) := by
  rw [closeFlashWait, quietRefresh_err_status h, Ending.andThen_fail]

/-- Likewise its second read; the value of the first one is discarded (R119). -/
theorem closeFlashWait_err_control (h : s.upcoming 2 = [.ok s1, .err]) : closeFlashWait seen s =
    .fail .regReadFailure (s.after 2 [.apRead 1 0 (some s1), .apRead 1 4 none]) := by
  rw [closeFlashWait, quietRefresh_err_control h, Ending.andThen_fail]

end Close

end Sys2Proof.Machine
end

section
/-! PROOFS. The statements on a poll and on what each wait does, answer by answer. -/

namespace Sys2Proof.Machine

/-- Settles O30: by the answer to the one read, and the policy where it is `Err`. -/
theorem pollLaw : Obligations.PollLaw := by
  intro s v
  refine ⟨fun h => ?_, fun p h => ?_, fun p h => ?_⟩
  · exact poll_ok ((s.nextReply_eq_iff _).2 h)
  · exact poll_err_abort p ((s.nextReply_eq_iff _).2 h)
  · exact poll_err_counted p ((s.nextReply_eq_iff _).2 h)

/-- Settles O31: by what the write and the polls in a session are answered; with no session it is refused. -/
theorem waitResetAssertedCommand : Obligations.WaitResetAssertedCommand := by
  intro s sn x w vs hv
  refine ⟨fun hs hn hw h => ?_, fun hs hn h => ?_, fun hs h => ?_, fun hs p hn h => ?_,
    exec_of_no_session rfl⟩ <;> rw [exec_waitResetAsserted, standalone_noData]
  · rw [waitResetAssertedProc_seen (s := s.accept) hs hv hn hw h]
    rfl
  · rw [waitResetAssertedProc_unseen (s := s.accept) hs hv hn h]
    rfl
  · rw [waitResetAssertedProc_err_write (s := s.accept) hs h]
    rfl
  · rw [waitResetAssertedProc_err_poll (s := s.accept) p hs hv hn h]
    rfl

/-- Settles O32: the polls decide, and the closing refresh is answered. -/
theorem waitFlashReadyCommand : Obligations.WaitFlashReadyCommand := by
  intro s sn s0 c0 w s1 c1 vs hv hd
  refine ⟨fun hs hn hw h => ?_, fun hs hn h => ?_, exec_of_no_session rfl⟩ <;>
    rw [exec_waitFlashReady, standalone_noData]
  · obtain ⟨t, rfl, he, hr⟩ := waitFlashReadyProc_seen (s := s.accept) hs hv hd hn hw h
    rw [he, closeFlashWait_ok hr, State.inWait_after]
    rfl
  · obtain ⟨t, rfl, he, hr⟩ := waitFlashReadyProc_unseen (s := s.accept) hs hv hd hn h
    rw [he, closeFlashWait_ok hr, State.inWait_after]
    rfl

/-- Settles O33: the opening refresh and the polls end the wait where they fail; after them the closing
refresh does, whether a poll saw the bit or not. -/
theorem waitFlashReadyReadFailure : Obligations.WaitFlashReadyReadFailure := by
  intro s sn s0 c0 w s1 vs hv hd hs
  refine ⟨fun h => ?_, fun p hn h => ?_, fun h => ?_, fun hn h => ?_, fun hn hw h => ?_,
    fun hn hw h => ?_, fun hn h => ?_⟩ <;> rw [exec_waitFlashReady, standalone_noData]
  · rw [waitFlashReadyProc_err_open (s := s.accept) hs
      (quietRefresh_err_status (s := s.accept.clearPolls) h)]
    rfl
  · rw [waitFlashReadyProc_err_poll (s := s.accept) p hs hv hd hn h]
    rfl
  · rw [waitFlashReadyProc_err_open (s := s.accept) hs
      (quietRefresh_err_control (s := s.accept.clearPolls) h)]
    rfl
  · obtain ⟨t, rfl, he, hr⟩ := waitFlashReadyProc_unseen (s := s.accept) hs hv hd hn h
    rw [he, closeFlashWait_err_control hr, State.inWait_after]
    rfl
  · obtain ⟨t, rfl, he, hr⟩ := waitFlashReadyProc_seen (s := s.accept) hs hv hd hn hw h
    rw [he, closeFlashWait_err_status hr, State.inWait_after, List.append_assoc _ [_]]
    rfl
  · obtain ⟨t, rfl, he, hr⟩ := waitFlashReadyProc_seen (s := s.accept) hs hv hd hn hw h
    rw [he, closeFlashWait_err_control hr, State.inWait_after, List.append_assoc _ [_]]
    rfl
  · obtain ⟨t, rfl, he, hr⟩ := waitFlashReadyProc_unseen (s := s.accept) hs hv hd hn h
    rw [he, closeFlashWait_err_status hr, State.inWait_after]
    rfl

end Sys2Proof.Machine
end

section
/-! SUPPORT. The bounds of the two waits, whatever the environment answers (R143): the events that polls
and delays issue, and the parts of a flash wait as parts that only read. -/

namespace Sys2Proof.Machine

/-- A command without result data issues what its body issues. -/
theorem finish_noData_trace (e : Ending Unit) : e.noData.finish.trace = e.state.trace := by cases e <;> rfl

theorem finish_noData_pollCnt (e : Ending Unit) : e.noData.finish.pollCnt = e.state.pollCnt := by
  rw [Ending.finish_pollCnt, Ending.noData_state]

/-- A command that ends with cause none has run its body to the end (R180). -/
theorem eq_ok_of_finish_noData_cause {s : State} {e : Ending Unit} (h : e.Follows s)
    (hc : e.noData.finish.cause = .none) : ∃ t, e = .ok () t := by
  cases e with
  | ok _ t => exact ⟨t, rfl⟩
  | fail c t =>
    obtain ⟨evs, -, -, -, hn, -⟩ := h
    exact absurd hc hn

/-! ### The loop of `WAIT_RESET_ASSERTED` -/

/-- An event that is a read answered `Ok`. -/
def Event.isReadOk (e : Event) : Bool := e.isApRead && !e.isErr

/-- From `s` to `t` at most `n` polls are made, with at most one delay for each: the events `evs` are reads
of Status and delays, and those answered `Ok` are counted, every one where a failed poll ends the wait. -/
structure Polled (s t : State) (n : Nat) (evs : List Event) : Prop where
  trace : t.trace = s.trace ++ evs
  config : t.config = s.config
  kinds : ∀ e ∈ evs, e.isStatusRead = true ∨ e.isDelay = true
  reads : evs.countP Event.isApRead ≤ n
  delays : evs.countP Event.isDelay ≤ evs.countP Event.isApRead
  counted : s.config.pollReadErrPolicy = .abort → t.pollCnt = s.pollCnt + evs.countP Event.isReadOk

theorem Polled.refl (s : State) (n : Nat) : Polled s s n [] := by constructor <;> simp

theorem Polled.trans {s t u : State} {m n : Nat} {a b : List Event} (h : Polled s t m a)
    (k : Polled t u n b) : Polled s u (m + n) (a ++ b) where
  trace := by rw [k.trace, h.trace, List.append_assoc]
  config := k.config.trans h.config
  kinds e he := (List.mem_append.1 he).elim (h.kinds e) (k.kinds e)
  reads := by rw [List.countP_append]; exact Nat.add_le_add h.reads k.reads
  delays := by rw [List.countP_append, List.countP_append]; exact Nat.add_le_add h.delays k.delays
  counted p := by
    rw [k.counted (h.config ▸ p), h.counted p, List.countP_append, Nat.add_assoc]

/-- One read of Status. -/
theorem Polled.of_read {s t : State} {a : Option Word} (ht : t.trace = s.trace ++ [.apRead 1 0 a])
    (hc : t.config = s.config) (hp : s.config.pollReadErrPolicy = .abort →
      t.pollCnt = s.pollCnt + [Event.apRead 1 0 a].countP Event.isReadOk) : Polled s t 1 [.apRead 1 0 a] :=
  ⟨ht, hc, by simp [Event.isStatusRead, apMdm, offStatus], le_rfl, Nat.zero_le _, hp⟩

/-- A poll is one read, counted where it is answered `Ok` or a failed one is an attempt (R140, D10). -/
theorem poll_polled (s : State) : ∃ a, Polled s (poll s).state 1 [.apRead 1 0 a] := by
  cases h : s.nextReply with
  | ok v =>
    rw [poll_ok h]
    exact ⟨some v, .of_read rfl rfl fun _ => rfl⟩
  | err =>
    refine ⟨none, ?_⟩
    cases p : s.config.pollReadErrPolicy with
    | abort =>
      rw [poll_err_abort p h]
      exact .of_read rfl rfl fun _ => rfl
    | countAsAttempt =>
      rw [poll_err_counted p h]
      exact .of_read rfl rfl (by simp [p])

/-- The delay after a poll (R141). -/
theorem Polled.delay {s t : State} {a : Option Word} (h : Polled s t 1 [.apRead 1 0 a]) (ms : Nat) :
    Polled s (t.delay ms) 1 [.apRead 1 0 a, .delay ms] where
  trace := by rw [State.delay_trace, h.trace, List.append_assoc]; rfl
  config := h.config
  kinds := by simp [Event.isStatusRead, Event.isDelay, apMdm, offStatus]
  reads := Nat.le_refl 1
  delays := Nat.le_refl 1
  counted p := h.counted p

theorem resetLoop_polled (n : Nat) (s : State) : ∃ evs, Polled s (resetLoop n s).state n evs := by
  induction n generalizing s with
  | zero => exact ⟨[], .refl s 0⟩
  | succ n ih =>
    obtain ⟨a, h⟩ := poll_polled s
    rw [resetLoop, Nat.add_comm]
    cases e : poll s with
    | fail c t =>
      rw [e] at h
      exact ⟨_, h.trans (.refl t n)⟩
    | ok polled t =>
      rw [e] at h
      rw [Ending.andThen_ok]
      split
      · exact ⟨_, h.trans (.refl t n)⟩
      · obtain ⟨evs, k⟩ := ih (t.delay t.config.resetPollDelayMs)
        exact ⟨_, (h.delay _).trans k⟩

/-- What polls issue holds no write. -/
theorem Polled.countP_isApWrite {s t : State} {n : Nat} {evs : List Event} (h : Polled s t n evs) :
    evs.countP Event.isApWrite = 0 := by
  rw [List.countP_eq_zero]
  intro e he
  have := h.kinds e he
  cases e <;> simp_all [Event.isStatusRead, Event.isDelay, Event.isApWrite]

/-- All reads among it are of Status. -/
theorem Polled.countP_isApRead_eq_isStatusRead {s t : State} {n : Nat} {evs : List Event} (h : Polled s t n evs) :
    evs.countP Event.isApRead = evs.countP Event.isStatusRead := by
  refine List.countP_congr fun e he => ?_
  have := h.kinds e he
  cases e <;> simp_all [Event.isStatusRead, Event.isDelay, Event.isApRead]

/-! ### The parts of `WAIT_FLASH_READY` -/

theorem Event.not_isApWrite_of_isApRead {e : Event} (h : e.isApRead = true) : ¬ e.isApWrite = true := by
  cases e <;> simp_all [Event.isApRead, Event.isApWrite]

theorem Event.not_isDelay_of_isApRead {e : Event} (h : e.isApRead = true) : ¬ e.isDelay = true := by
  cases e <;> simp_all [Event.isApRead, Event.isDelay]

/-- A part that changes no parameter and issues nothing but at most `n` reads of the access port. -/
def Ending.OnlyReads {α : Type} (s : State) (n : Nat) (e : Ending α) : Prop :=
  e.state.config = s.config ∧
    ∃ evs, e.state.trace = s.trace ++ evs ∧ evs.length ≤ n ∧ ∀ x ∈ evs, x.isApRead = true

section Rules

variable {α β : Type} {s t : State} {m n : Nat} {e : Ending α} {f : α → State → Ending β}

theorem Ending.OnlyReads.quiet (hc : e.state.config = s.config) (ht : e.state.trace = s.trace) :
    e.OnlyReads s n := ⟨hc, [], by simp [ht], by simp, by simp⟩

/-- Two parts in sequence, the second one under the same parameters. -/
theorem Ending.OnlyReads.andThen (h : e.OnlyReads s m)
    (k : ∀ a t, t.config = s.config → (f a t).OnlyReads t n) : (e.andThen f).OnlyReads s (m + n) := by
  obtain ⟨hc, evs, ht, hl, hr⟩ := h
  cases e with
  | fail c t => exact ⟨hc, evs, ht, hl.trans (Nat.le_add_right m n), hr⟩
  | ok a t =>
    obtain ⟨hc', evs', ht', hl', hr'⟩ := k a t hc
    refine ⟨hc'.trans hc, evs ++ evs', ?_, ?_, ?_⟩
    · rw [Ending.andThen_ok, ht', ← List.append_assoc, ← ht, Ending.state_ok]
    · rw [List.length_append]
      exact Nat.add_le_add hl hl'
    · exact fun x hx => (List.mem_append.1 hx).elim (hr x) (hr' x)

end Rules

/-- The number of reads is what is spent where a read costs 1 and nothing else costs anything. -/
theorem Spent.countP_isApRead {s t : State} {cost : Cost} {polls : Nat → Nat}
    {held : List PostedWrite → List PostedWrite} {evs : List Event} (h : Spent s t cost polls held)
    (ht : t.trace = s.trace ++ evs) : evs.countP Event.isApRead = cost s.config { apRead := 1 } := by
  have hb := h.bill { apRead := 1 }
  rw [ht, Prices.bill_append, Nat.add_left_cancel_iff] at hb
  rw [← hb, Prices.bill_eq_countP]
  intro e
  cases e <;> rfl

theorem apRead_onlyReads (off : Nat) (s : State) : (apRead off s).OnlyReads s 1 := by
  cases h : s.nextReply with
  | ok v => rw [apRead_ok h]; exact ⟨rfl, [.apRead 1 off (some v)], rfl, le_rfl, by simp [Event.isApRead]⟩
  | err => rw [apRead_err h]; exact ⟨rfl, [.apRead 1 off none], rfl, le_rfl, by simp [Event.isApRead]⟩

theorem quietRefresh_onlyReads (s : State) : (quietRefresh s).OnlyReads s 2 :=
  .andThen (n := 0) ((apRead_onlyReads offStatus s).andThen fun _ t _ =>
    .andThen (n := 0) (apRead_onlyReads offControl t) fun _ _ _ => .quiet rfl rfl) fun _ _ _ => .quiet rfl rfl

theorem poll_onlyReads (s : State) : (poll s).OnlyReads s 1 := by
  obtain ⟨a, h⟩ := poll_polled s
  exact ⟨h.config, [.apRead 1 0 a], h.trace, le_rfl, by simp [Event.isApRead]⟩

theorem flashLoop_onlyReads (n : Nat) (s : State) (hd : s.config.flashPollDelayMs = none) :
    (flashLoop n s).OnlyReads s n := by
  induction n generalizing s with
  | zero => exact .quiet rfl rfl
  | succ n ih =>
    rw [flashLoop, Nat.add_comm]
    refine (poll_onlyReads s).andThen fun polled t ht => ?_
    have hd' : t.config.flashPollDelayMs = none := ht ▸ hd
    split
    · exact .quiet rfl rfl
    · rw [State.flashDelay, hd']
      exact ih t hd'

theorem closeFlashWait_onlyReads (seen : Bool) (s : State) : (closeFlashWait seen s).OnlyReads s 2 :=
  .andThen (n := 0) (quietRefresh_onlyReads s) fun _ _ _ => by cases seen <;> exact .quiet rfl rfl

theorem waitFlashReadyProc_onlyReads {s : State} {sn : Snapshot} (hs : s.snap = some sn)
    (hd : s.config.flashPollDelayMs = none) :
    (waitFlashReadyProc s).OnlyReads s (2 + (s.config.flashPollMax + 2)) := by
  rw [waitFlashReadyProc_of_session hs]
  refine (quietRefresh_onlyReads s.clearPolls).andThen fun _ t ht => ?_
  have hc : t.config = s.config := ht
  rw [← hc]
  exact (flashLoop_onlyReads _ t (hc ▸ hd)).andThen fun seen u _ => closeFlashWait_onlyReads seen u

end Sys2Proof.Machine
end

section
/-! PROOFS. The statements on the bounds of the two waits. -/

namespace Sys2Proof.Machine

/-- Settles O34: the write, and then, where it is answered `Ok`, what the polls issue. -/
theorem waitResetBounds : Obligations.WaitResetBounds := by
  intro s t sn hs h
  cases h.symm.trans (exec_waitResetAsserted s)
  rw [standalone_noData, waitResetAssertedProc_of_session (s := s.accept) hs]
  cases hr : s.accept.clearPolls.nextReply with
  | err =>
    rw [apWriteControl_err hr]
    exact ⟨[.apWrite 1 4 0x00000008#32 false], rfl, rfl, rfl, Nat.zero_le _, Nat.zero_le _, fun _ => rfl⟩
  | ok x =>
    rw [apWriteControl_ok hr, Ending.andThen_ok]
    obtain ⟨evs, k⟩ := resetLoop_polled s.config.resetPollMax
      (s.accept.clearPolls.after 1 [.apWrite 1 4 0x00000008#32 true])
    refine ⟨.apWrite 1 4 0x00000008#32 true :: evs, ?_, ?_, k.countP_isApRead_eq_isStatusRead, k.reads,
      k.delays, fun p => ?_⟩
    · exact (finish_noData_trace _).trans (k.trace.trans (List.append_assoc _ [_] evs))
    · rw [List.countP_cons_of_pos rfl, k.countP_isApWrite]
    · exact (finish_noData_pollCnt _).trans ((k.counted p).trans (Nat.zero_add _))

/-- Settles O35: every part of the wait only reads; on success each read is paid for. -/
theorem waitFlashBounds : Obligations.WaitFlashBounds := by
  intro s t sn hs hd h
  cases h.symm.trans (exec_waitFlashReady s)
  rw [standalone_noData]
  obtain ⟨-, evs, ht, hl, hr⟩ := waitFlashReadyProc_onlyReads (s := s.accept) hs hd
  have hreads : evs.countP Event.isApRead = evs.length := List.countP_eq_length.2 hr
  refine ⟨evs, (finish_noData_trace _).trans ht, ?_, ?_, ?_, fun hc => ?_⟩
  · exact List.countP_eq_zero.2 fun e he => Event.not_isApWrite_of_isApRead (hr e he)
  · exact List.countP_eq_zero.2 fun e he => Event.not_isDelay_of_isApRead (hr e he)
  · rw [hreads]
    exact hl.trans (by simp only [State.accept_config]; omega)
  · obtain ⟨t, he⟩ := eq_ok_of_finish_noData_cause (waitFlashReadyProc_follows s.accept) hc
    obtain ⟨k, hk, spent⟩ := waitFlashReadyProc_spent (s := s.accept) hd he
    rw [he] at ht ⊢
    have hp : t.pollCnt = k + 1 := spent.pollCnt
    have hb : evs.countP Event.isApRead = 1 + 1 + (1 + k * 1) + (1 + 1) := spent.countP_isApRead ht
    have hmax : k < s.config.flashPollMax := hk
    simp only [Ending.noData_ok, Ending.finish_ok, State.succeed_pollCnt, hp]
    omega

end Sys2Proof.Machine
end

section
/-! SUPPORT. The edges of the step register (R165): what the value it holds and the recorded cause can
become in one part of `UNLOCK`, and on which answers `S6` decides. -/

namespace Sys2Proof.Machine

/-- The value that follows in the sequence; a resting value stays (R150, R165). -/
def UnlockStep.next : UnlockStep → UnlockStep
  | .s1 => .s2
  | .s2 => .s3
  | .s3 => .s4
  | .s4 => .s5
  | .s5 => .s6
  | .s6 => .s7
  | .s7 => .s8
  | .s8 => .s9
  | .s9 => .s10
  | .s10 => .s11
  | .s11 => .done
  | .idle => .idle
  | .done => .done
  | .failed => .failed
  | .abortSecured => .abortSecured

/-- From `s` one part of `UNLOCK` has led to `t`: on in the sequence with nothing recorded, out of `S6` by
the security exit (R157), or to `FAILED` with a cause (R163). -/
def Advances (s t : State) : Prop :=
  (t.stepReg = s.stepReg.next ∧ t.cause = s.cause) ∨
  (s.stepReg = .s6 ∧ t.stepReg = .abortSecured ∧ t.cause = .targetSecured) ∨
  (t.stepReg = .failed ∧ t.cause ≠ .none ∧ t.cause ≠ .targetSecured)

theorem failureExit_advances (s u : State) (n : Fin 12) {c : Cause} (hn : c ≠ .none)
    (ht : c ≠ .targetSecured) : Advances s (failureExit n c u) := .inr (.inr ⟨rfl, hn, ht⟩)

/-- A step with its body: no body touches the register, and none raises `TARGET_SECURED`. -/
theorem leaveStep_advances {s : State} {e : Ending Unit} {target : UnlockStep} (n : Fin 12)
    (ht : target = s.stepReg.next) (h : e.Follows s) : Advances s (e.leaveStep n target) := by
  cases e with
  | ok _ t =>
    obtain ⟨evs, w, -⟩ := h
    exact .inl ⟨ht, w.cause⟩
  | fail c t =>
    obtain ⟨evs, -, -, -, hn, hs, -⟩ := h
    exact failureExit_advances s t n hn hs

theorem unlockS6_advances {s : State} (hs : s.stepReg = .s6) : Advances s (unlockS6 s) := by
  have h := refreshProc_follows true s
  cases e : refreshProc true s with
  | fail c t =>
    rw [e] at h
    obtain ⟨evs, -, -, -, hn, ht, -⟩ := h
    rw [unlockS6_of_fail e]
    exact failureExit_advances s t 6 hn ht
  | ok r t =>
    rw [e] at h
    obtain ⟨evs, w, -⟩ := h
    rw [unlockS6_of_ok e]
    split
    · exact .inr (.inl ⟨hs, rfl, rfl⟩)
    · exact .inl ⟨by rw [hs]; rfl, w.cause⟩

theorem unlockS11_advances {s : State} (hs : s.stepReg = .s11) : Advances s (unlockS11 s) := by
  have h := refreshProc_follows true s
  unfold unlockS11
  cases e : refreshProc true s with
  | fail c t =>
    rw [e] at h
    obtain ⟨evs, -, -, -, hn, ht, -⟩ := h
    exact failureExit_advances s t 11 hn ht
  | ok r t =>
    rw [e] at h
    obtain ⟨evs, w, -⟩ := h
    exact .inl ⟨by rw [hs]; rfl, w.cause⟩

theorem unlockAdvance_advances (s : State) : Advances s (unlockAdvance s) := by
  cases hk : s.stepReg with
  | s1 =>
    rw [unlockAdvance_s1 hk]
    exact leaveStep_advances 1 (by rw [hk]; rfl)
      ((probeAttach_follows s).andThen fun _ t => probeTargetReset_follows t)
  | s2 =>
    rw [unlockAdvance_s2 hk]
    exact leaveStep_advances 2 (by rw [hk]; rfl) (readProc_follows true s).discard
  | s3 =>
    rw [unlockAdvance_s3 hk]
    exact leaveStep_advances 3 (by rw [hk]; rfl) (waitResetAssertedProc_follows s)
  | s4 =>
    rw [unlockAdvance_s4 hk]
    exact leaveStep_advances 4 (by rw [hk]; rfl)
      ((readIdrProc_follows s).andThen fun r t => .ok (went_logIdr r t)
        (by split <;> simp [Event.legal]) (by split <;> simp [NoErr, Event.isErr]))
  | s5 =>
    rw [unlockAdvance_s5 hk]
    exact leaveStep_advances 5 (by rw [hk]; rfl) (waitFlashReadyProc_follows s)
  | s6 =>
    rw [unlockAdvance_s6 hk]
    exact unlockS6_advances hk
  | s7 =>
    rw [unlockAdvance_s7 hk]
    exact leaveStep_advances 7 (by rw [hk]; rfl) ((writeControlBitSetProc_follows _ s).andThen
      fun _ t => (refreshAndReportProc_follows _ t).discard)
  | s8 =>
    rw [unlockAdvance_s8 hk]
    exact leaveStep_advances 8 (by rw [hk]; rfl) (haltProc_follows s)
  | s9 =>
    rw [unlockAdvance_s9 hk]
    exact leaveStep_advances 9 (by rw [hk]; rfl) (refreshProc_follows true s).discard
  | s10 =>
    rw [unlockAdvance_s10 hk]
    exact leaveStep_advances 10 (by rw [hk]; rfl) (releaseProc_follows s)
  | s11 =>
    rw [unlockAdvance_s11 hk]
    exact unlockS11_advances hk
  | idle | done | failed | abortSecured =>
    rw [unlockAdvance_resting (by rw [hk]; rfl)]
    exact .inl ⟨by rw [hk]; rfl, rfl⟩

/-- A step other than `S6` has two edges. -/
theorem Advances.stepReg_mem {s t : State} {k : UnlockStep} (h : Advances s t) (hk : s.stepReg = k)
    (h6 : k ≠ .s6) : t.stepReg ∈ [k.next, .failed] := by
  subst hk
  obtain ⟨hreg, -⟩ | ⟨hs6, -⟩ | ⟨hreg, -⟩ := h
  · simp [hreg]
  · exact absurd hs6 h6
  · simp [hreg]

/-- `S6` has three. -/
theorem Advances.stepReg_mem_of_s6 {s t : State} (h : Advances s t) (hs : s.stepReg = .s6) :
    t.stepReg ∈ [.s7, .abortSecured, .failed] := by
  obtain ⟨hreg, -⟩ | ⟨-, hreg, -⟩ | ⟨hreg, -⟩ := h <;> simp [hreg, hs, UnlockStep.next]

theorem UnlockStep.next_ne_failed {k : UnlockStep} (h : k.resting = false) : k.next ≠ .failed := by
  cases k with
  | failed => cases h
  | _ => exact UnlockStep.noConfusion

/-- A step that starts with no cause recorded fails exactly when it records one of a failure (R163). -/
theorem Advances.failed_iff {s t : State} (h : Advances s t) (hc : s.cause = .none)
    (hr : s.stepReg.resting = false) :
    t.stepReg = .failed ↔ t.cause ≠ .none ∧ t.cause ≠ .targetSecured := by
  obtain ⟨hreg, hcause⟩ | ⟨-, hreg, hcause⟩ | ⟨hreg, hn, ht⟩ := h
  · simp [hreg, hcause, hc, UnlockStep.next_ne_failed hr]
  · simp [hreg, hcause]
  · simp [hreg, hn, ht]

/-- `S6` aborts exactly when it records `TARGET_SECURED` (R157). -/
theorem Advances.abortSecured_iff {s t : State} (h : Advances s t) (hc : s.cause = .none)
    (hs : s.stepReg = .s6) : t.stepReg = .abortSecured ↔ t.cause = .targetSecured := by
  obtain ⟨hreg, hcause⟩ | ⟨-, hreg, hcause⟩ | ⟨hreg, -, ht⟩ := h
  · simp [hreg, hcause, hc, hs, UnlockStep.next]
  · simp [hreg, hcause]
  · simp [hreg, ht]

/-! ### The branch of `S6` -/

theorem apRead_eq_ok {s t : State} {off : Nat} {v : Word} (h : apRead off s = .ok v t) :
    s.nextReply = .ok v ∧ t = s.after 1 [.apRead 1 off (some v)] := by
  cases hr : s.nextReply with
  | ok w =>
    cases h.symm.trans (apRead_ok hr)
    exact ⟨rfl, rfl⟩
  | err => cases h.symm.trans (apRead_err hr)

/-- A reload is done exactly when both its reads are answered `Ok`, with what they read (R119). -/
theorem exists_reload_eq_ok_iff {s : State} {st ct : Word} :
    (∃ u, reload s = .ok (st, ct) u) ↔ s.upcoming 2 = [.ok st, .ok ct] := by
  refine ⟨fun ⟨u, h⟩ => ?_, fun h => ⟨_, reload_ok h⟩⟩
  obtain ⟨_, t, hst, h⟩ := Ending.andThen_eq_ok.1 h
  obtain ⟨_, _, hct, h⟩ := Ending.andThen_eq_ok.1 h
  cases h
  obtain ⟨hnext, rfl⟩ := apRead_eq_ok hst
  obtain ⟨hlast, rfl⟩ := apRead_eq_ok hct
  exact (s.upcoming_cons 1 _ _ _).2 ⟨hnext, (State.nextReply_eq_iff _ _).1 hlast⟩

/-- A refresh is done exactly when there is a session and both its reads are answered `Ok` (R122). -/
theorem exists_refreshProc_eq_ok_iff {s : State} {v : Bool} {st ct : Word} :
    (∃ u, refreshProc v s = .ok (st, ct) u) ↔
      s.snap.isSome = true ∧ s.upcoming 2 = [.ok st, .ok ct] := by
  rw [refreshProc, ← exists_reload_eq_ok_iff]
  cases hs : s.snap with
  | none => simp [session_none hs]
  | some sn => simp [session_some hs, Ending.andThen_eq_ok]

/-- Where `S6` goes on a Status value with this security bit (R157). -/
def securityBranch (secured : Bool) : UnlockStep := if secured then .abortSecured else .s7

theorem securityBranch_injective : Function.Injective securityBranch := by decide

theorem failed_ne_securityBranch : ∀ secured, .failed ≠ securityBranch secured := by decide

theorem unlockS6_stepReg_of_ok {s t : State} {r : Word × Word} (h : refreshProc true s = .ok r t) :
    (unlockS6 s).stepReg = securityBranch (r.1.getLsbD 2) := by
  rw [unlockS6_of_ok h, apply_ite State.stepReg]
  rfl

/-- `S6` takes a branch exactly when its refresh is answered, with Status bit 2 as the branch says. -/
theorem unlockS6_branch_iff (s : State) (secured : Bool) :
    (unlockS6 s).stepReg = securityBranch secured ↔ s.snap.isSome = true ∧
      ∃ st ct : Word, s.upcoming 2 = [.ok st, .ok ct] ∧ st.getLsbD 2 = secured := by
  constructor
  · intro h
    cases e : refreshProc true s with
    | fail c t =>
      rw [unlockS6_of_fail e] at h
      exact absurd h (failed_ne_securityBranch secured)
    | ok r t =>
      rw [unlockS6_stepReg_of_ok e] at h
      obtain ⟨hs, hu⟩ := exists_refreshProc_eq_ok_iff.1 ⟨t, e⟩
      exact ⟨hs, r.1, r.2, hu, securityBranch_injective h⟩
  · rintro ⟨hs, st, ct, hu, rfl⟩
    obtain ⟨t, e⟩ := exists_refreshProc_eq_ok_iff.2 ⟨hs, hu⟩
    exact unlockS6_stepReg_of_ok e

end Sys2Proof.Machine
end

section
/-! PROOFS. The statements on how `UNLOCK` starts and ends, and on the edges of the step register. -/

namespace Sys2Proof.Machine

/-- Settles O39: what every run of `UNLOCK` ends with. -/
theorem unlockEndings : Obligations.UnlockEndings := by
  intro s
  have he := exec_unlock s
  obtain ⟨evs, r, hsnap, -, hend⟩ := unlock_ends he
  exact ⟨_, evs, he, hsnap, r.trace, hend⟩

/-- Settles O49: the start of `UNLOCK` drops the snapshot, whatever it is. -/
theorem unlockIgnoresSession : Obligations.UnlockIgnoresSession := by
  intro s sn
  rw [exec_unlock, exec_unlock]
  rfl

/-- `UNLOCK` ends with its first step when that fails (R152, R163). -/
theorem exec_unlock_of_s1_fails {s : State} {c : Cause} {n : Nat} {evs : List Event}
    (h : ((probeAttach (unlockStart s)).andThen fun _ t => probeTargetReset t) =
      .fail c ((unlockStart s).after n evs)) :
    exec .unlock s = .next ({ s.after n (evs ++ [Event.log (.error c 1)]) with
      snap := none, stepReg := .failed, pollCnt := 0 }.failedIn c 1) := by
  have hs1 : unlockAdvance (unlockStart s) =
      failureExit 1 c ((unlockStart s).after n evs) := by
    rw [unlockAdvance_s1 rfl, unlockS1, h, Ending.leaveStep_fail]
  rw [exec_unlock, unlockRun, hs1, unlockRun_resting 10 rfl, failureExit, State.log_eq_after, State.after_after]
  rfl

/-- Settles O38: the first of the two events that fails is the last transaction. -/
theorem unlockAttachFailure : Obligations.UnlockAttachFailure := by
  intro s x
  refine ⟨fun h => exec_unlock_of_s1_fails (evs := [.probeAttach false]) ?_,
    fun h => exec_unlock_of_s1_fails (evs := [.probeAttach true, .probeTargetReset false]) ?_⟩
  · have hattach : (unlockStart s).nextReply = .err := (State.nextReply_eq_iff _ _).2 h
    rw [probeAttach_err hattach, Ending.andThen_fail]
  · obtain ⟨hattach, hreset⟩ := ((unlockStart s).upcoming_cons 1 _ _ [.probeAttach true]).1 h
    rw [probeAttach_ok hattach, Ending.andThen_ok,
      probeTargetReset_err ((State.nextReply_eq_iff _ _).2 hreset), State.after_after]
    rfl

/-- Settles O42: by what one part of `UNLOCK` can do, and the branch of `S6` by the answers to its refresh. -/
theorem stepRegisterEdges : Obligations.StepRegisterEdges := by
  intro s
  have h := unlockAdvance_advances s
  refine ⟨rfl, fun rest hin => ⟨_, step_of_reset hin, rfl⟩, unlockAdvance_resting, fun hc => ?_⟩
  refine ⟨(h.stepReg_mem · (by decide)), (h.stepReg_mem · (by decide)), (h.stepReg_mem · (by decide)),
    (h.stepReg_mem · (by decide)), (h.stepReg_mem · (by decide)), h.stepReg_mem_of_s6,
    (h.stepReg_mem · (by decide)), (h.stepReg_mem · (by decide)), (h.stepReg_mem · (by decide)),
    (h.stepReg_mem · (by decide)), (h.stepReg_mem · (by decide)), h.failed_iff hc, fun hs => ?_⟩
  refine ⟨h.abortSecured_iff hc hs, ?_, ?_⟩ <;> rw [unlockAdvance_s6 hs]
  · exact unlockS6_branch_iff s false
  · exact unlockS6_branch_iff s true

end Sys2Proof.Machine
end

section
/-! SUPPORT. What `UNLOCK` sends to the target on its way to the security check (R157): the view of the
history that holds the Control writes, the memory-mapped transactions and the posted words, and the parts
of a command that leave it alone. -/

namespace Sys2Proof.Machine

/-- A Control write or a memory-mapped transaction. -/
def Event.reachesTarget : Event → Bool
  | .apWrite _ _ _ _ => true
  | .memRead _ _ => true
  | .memWrite _ _ _ => true
  | .memFlush _ => true
  | _ => false

theorem Event.reachesTarget_iff (e : Event) : e.reachesTarget = true ↔
    e.isApWrite = true ∨ e.isMemRead = true ∨ e.isMemWrite = true ∨ e.isMemFlush = true := by
  cases e <;> simp [Event.reachesTarget, Event.isApWrite, Event.isMemRead, Event.isMemWrite, Event.isMemFlush]

/-- What has been sent to the target so far, and what no flush has confirmed of it. -/
def State.sent (s : State) : List Event × List PostedWrite :=
  (s.trace.filter Event.reachesTarget, s.posted)

/-- Events of no such kind leave the view. -/
theorem State.sent_after {evs : List Event} (h : evs.filter Event.reachesTarget = []) (s : State) (n : Nat) :
    (s.after n evs).sent = s.sent := by
  simp [State.sent, h]

theorem State.sent_log (s : State) (item : LogItem) : (s.log item).sent = s.sent := by
  rw [State.log_eq_after]
  exact State.sent_after rfl s 0

theorem State.sent_delay (s : State) (ms : Nat) : (s.delay ms).sent = s.sent := by
  rw [State.delay_eq_after]
  exact State.sent_after rfl s 0

theorem State.sent_flashDelay (s : State) : s.flashDelay.sent = s.sent := by
  unfold State.flashDelay
  split
  · exact s.sent_delay _
  · rfl

theorem State.sent_logIdr (r : Word) (s : State) : (s.logIdr r).sent = s.sent := by
  unfold State.logIdr
  split
  · exact s.sent_log _
  · exact ((s.log _).sent_log _).trans (s.sent_log _)

theorem apRead_sent (off : Nat) (s : State) : (apRead off s).state.sent = s.sent := by
  cases h : s.nextReply with
  | ok v => rw [apRead_ok h]; exact State.sent_after rfl s 1
  | err => rw [apRead_err h]; exact State.sent_after rfl s 1

theorem probeAttach_sent (s : State) : (probeAttach s).state.sent = s.sent := by
  cases h : s.nextReply with
  | ok v => rw [probeAttach_ok h]; exact State.sent_after rfl s 1
  | err => rw [probeAttach_err h]; exact State.sent_after rfl s 1

theorem probeTargetReset_sent (s : State) : (probeTargetReset s).state.sent = s.sent := by
  cases h : s.nextReply with
  | ok v => rw [probeTargetReset_ok h]; exact State.sent_after rfl s 1
  | err => rw [probeTargetReset_err h]; exact State.sent_after rfl s 1

theorem poll_sent (s : State) : (poll s).state.sent = s.sent := by
  cases h : s.nextReply with
  | ok v => rw [poll_ok h]; exact State.sent_after (evs := [.apRead 1 0 (some v)]) rfl s 1
  | err =>
    cases p : s.config.pollReadErrPolicy with
    | abort => rw [poll_err_abort p h]; exact State.sent_after rfl s 1
    | countAsAttempt =>
      rw [poll_err_counted p h]; exact State.sent_after (evs := [.apRead 1 0 none]) rfl s 1

theorem reload_sent (s : State) : (reload s).state.sent = s.sent :=
  Ending.keep_andThen (apRead_sent _ s) fun _ t => Ending.keep_andThen (apRead_sent _ t) fun _ _ => rfl

theorem readProc_sent (s : State) : (readProc true s).state.sent = s.sent :=
  Ending.keep_andThen (reload_sent s) fun _ _ => State.sent_log _ _

theorem refreshProc_sent (s : State) : (refreshProc true s).state.sent = s.sent :=
  Ending.keep_andThen (session_keep s) fun _ t => readProc_sent t

theorem identityCheck_sent (s : State) :
    ((readIdrProc s).andThen fun r t => .ok () (t.logIdr r)).state.sent = s.sent :=
  Ending.keep_andThen (apRead_sent offIdr s) fun r t => t.sent_logIdr r

theorem quietRefresh_sent (s : State) : (quietRefresh s).state.sent = s.sent :=
  Ending.keep_andThen (reload_sent s) fun _ _ => rfl

theorem resetLoop_sent (n : Nat) (s : State) : (resetLoop n s).state.sent = s.sent := by
  induction n generalizing s with
  | zero => rfl
  | succ n ih =>
    refine Ending.keep_andThen (poll_sent s) fun polled t => ?_
    split
    · rfl
    · exact (ih _).trans (t.sent_delay _)

theorem flashLoop_sent (n : Nat) (s : State) : (flashLoop n s).state.sent = s.sent := by
  induction n generalizing s with
  | zero => rfl
  | succ n ih =>
    refine Ending.keep_andThen (poll_sent s) fun polled t => ?_
    split
    · rfl
    · exact (ih _).trans t.sent_flashDelay

theorem waitFlashReadyProc_sent (s : State) : (waitFlashReadyProc s).state.sent = s.sent :=
  Ending.keep_andThen (session_keep s) fun _ t =>
    Ending.keep_andThen (quietRefresh_sent t.clearPolls) fun _ u =>
      Ending.keep_andThen (flashLoop_sent _ u) fun seen w =>
        Ending.keep_andThen (quietRefresh_sent w) fun _ _ => by cases seen <;> rfl

/-- A part that goes on leaves of the view what it leaves however it ends. -/
theorem Ending.sent_of_ok {α : Type} {e : Ending α} {v : α} {s t : State} (h : e.state.sent = s.sent)
    (he : e = .ok v t) : t.sent = s.sent := by
  rw [he] at h
  exact h

/-- A wait for the reset that goes on has sent its one write, answered `Ok` (R141). -/
theorem waitResetAssertedProc_sent {s t : State} (h : waitResetAssertedProc s = .ok () t) :
    t.sent = (s.sent.1 ++ [.apWrite 1 4 0x00000008#32 true], s.sent.2) := by
  obtain ⟨sn, u, hu, h⟩ := Ending.andThen_eq_ok.1 h
  obtain ⟨_, v, hv, hloop⟩ := Ending.andThen_eq_ok.1 h
  cases session_eq_ok hu
  rw [Ending.sent_of_ok (resetLoop_sent _ v) hloop]
  cases hr : s.clearPolls.nextReply with
  | ok x =>
    cases hv.symm.trans (apWriteControl_ok hr)
    simp [State.sent, Event.reachesTarget, maskSysResetRequest]
  | err => cases hv.symm.trans (apWriteControl_err hr)

/-! ### A run that ends `ABORT_SECURED` -/

/-- A sequence that does not end `FAILED` goes on from the step it runs next (R163). -/
theorem unlockRun_continues {n : Fin 12} {m : Nat} {k target : UnlockStep} {s : State} {e : Ending Unit}
    (he : unlockAdvance s = e.leaveStep n target) (hk : (unlockRun (m + 1) s).stepReg = k)
    (hf : k ≠ .failed) : ∃ u, e = .ok () u ∧ unlockRun (m + 1) s = unlockRun m (u.goTo target) := by
  rw [unlockRun, he] at hk ⊢
  cases e with
  | ok _ u => exact ⟨u, rfl, rfl⟩
  | fail c u =>
    rw [Ending.leaveStep_fail, unlockRun_resting m rfl] at hk
    exact absurd hk.symm hf

/-- The values of the step register from which no security check is still to come (R157, R165). -/
def UnlockStep.pastSecurity : UnlockStep → Bool
  | .s7 => true
  | .s8 => true
  | .s9 => true
  | .s10 => true
  | .s11 => true
  | .done => true
  | .failed => true
  | _ => false

theorem UnlockStep.pastSecurity_next {k : UnlockStep} (h : k.pastSecurity = true) :
    k.next.pastSecurity = true := by
  cases k with
  | s7 | s8 | s9 | s10 | s11 | done | failed => rfl
  | _ => exact Bool.noConfusion h

theorem unlockAdvance_pastSecurity {s : State} (h : s.stepReg.pastSecurity = true) :
    (unlockAdvance s).stepReg.pastSecurity = true := by
  obtain ⟨hreg, -⟩ | ⟨hs6, -⟩ | ⟨hreg, -⟩ := unlockAdvance_advances s
  · rw [hreg]
    exact UnlockStep.pastSecurity_next h
  · rw [hs6] at h
    exact Bool.noConfusion h
  · rw [hreg]
    rfl

theorem unlockRun_pastSecurity (n : Nat) {s : State} (h : s.stepReg.pastSecurity = true) :
    (unlockRun n s).stepReg.pastSecurity = true := by
  induction n generalizing s with
  | zero => exact h
  | succ n ih => exact ih (unlockAdvance_pastSecurity h)

/-- From `S6` a sequence ends `ABORT_SECURED` by the security exit of `S6` alone. -/
theorem unlockRun_aborts_at_s6 {m : Nat} {s : State} (hs : s.stepReg = .s6)
    (ha : (unlockRun (m + 1) s).stepReg = .abortSecured) :
    ∃ r u, refreshProc true s = .ok r u ∧ unlockRun (m + 1) s = securedExit u := by
  rw [unlockRun, unlockAdvance_s6 hs] at ha ⊢
  cases e : refreshProc true s with
  | fail c u =>
    rw [unlockS6_of_fail e, unlockRun_resting m rfl] at ha
    cases ha
  | ok r u =>
    refine ⟨r, u, rfl, ?_⟩
    rw [unlockS6_of_ok e] at ha ⊢
    split at ha
    next hq => rw [if_pos hq, unlockRun_resting m rfl]
    next =>
      have hpast := unlockRun_pastSecurity m (s := u.goTo .s7) rfl
      rw [ha] at hpast
      exact Bool.noConfusion hpast

/-- Up to the security exit the target has been sent the reset request of `S3`, and nothing else. -/
theorem unlock_sent_of_abortSecured {s t : State} (h : exec .unlock s = .next t)
    (ha : t.stepReg = .abortSecured) :
    t.sent = (s.sent.1 ++ [.apWrite 1 4 0x00000008#32 true], s.sent.2) := by
  cases h.symm.trans (exec_unlock s)
  obtain ⟨u1, h1, run⟩ := unlockRun_continues (unlockAdvance_s1 rfl) ha (by decide)
  rw [run] at ha ⊢
  obtain ⟨u2, h2, run⟩ := unlockRun_continues (unlockAdvance_s2 rfl) ha (by decide)
  rw [run] at ha ⊢
  obtain ⟨u3, h3, run⟩ := unlockRun_continues (unlockAdvance_s3 rfl) ha (by decide)
  rw [run] at ha ⊢
  obtain ⟨u4, h4, run⟩ := unlockRun_continues (unlockAdvance_s4 rfl) ha (by decide)
  rw [run] at ha ⊢
  obtain ⟨u5, h5, run⟩ := unlockRun_continues (unlockAdvance_s5 rfl) ha (by decide)
  rw [run] at ha ⊢
  obtain ⟨r, u6, h6, run⟩ := unlockRun_aborts_at_s6 rfl ha
  rw [run]
  have w1 : u1.sent = s.sent := Ending.sent_of_ok
    (Ending.keep_andThen (probeAttach_sent (unlockStart s)) fun _ v => probeTargetReset_sent v) h1
  have w2 : u2.sent = u1.sent := Ending.sent_of_ok
    ((congrArg State.sent (Ending.discard_state _)).trans (readProc_sent (u1.goTo .s2))) h2
  have w3 : u3.sent = (u2.sent.1 ++ [_], u2.sent.2) :=
    waitResetAssertedProc_sent (s := u2.goTo .s3) h3
  have w4 : u4.sent = u3.sent := Ending.sent_of_ok (identityCheck_sent (u3.goTo .s4)) h4
  have w5 : u5.sent = u4.sent := Ending.sent_of_ok (waitFlashReadyProc_sent (u4.goTo .s5)) h5
  have w6 : u6.sent = u5.sent := Ending.sent_of_ok (refreshProc_sent (u5.goTo .s6)) h6
  calc (securedExit u6).sent = u6.sent := u6.sent_log _
    _ = u3.sent := by rw [w6, w5, w4]
    _ = _ := by rw [w3, w2, w1]

/-- A kind of events that reach the target is to be looked for among those that do. -/
theorem filter_filter_reachesTarget {q : Event → Bool} (hq : ∀ e, q e = true → e.reachesTarget = true)
    (evs : List Event) : (evs.filter Event.reachesTarget).filter q = evs.filter q := by
  rw [List.filter_filter]
  refine List.filter_congr fun e _ => ?_
  cases h : q e with
  | false => rfl
  | true => exact hq e h

end Sys2Proof.Machine
end

section
/-! PROOFS. The statement on what a secured target is sent. -/

namespace Sys2Proof.Machine

/-- Settles O41: of what `UNLOCK` issues, the write of `S3` alone reaches the target. -/
theorem securedAbortNeverDebugs : Obligations.SecuredAbortNeverDebugs := by
  intro s t h ha
  obtain ⟨evs, r⟩ := exec_ran h
  obtain ⟨hsent, hposted⟩ := Prod.mk.inj (unlock_sent_of_abortSecured h ha)
  rw [r.trace, List.filter_append] at hsent
  have hevs : evs.filter Event.reachesTarget = [.apWrite 1 4 0x00000008#32 true] :=
    List.append_cancel_left hsent
  have of_kind {q : Event → Bool} (hq : ∀ e, q e = true → e.reachesTarget = true) :
      evs.filter q = [Event.apWrite 1 4 0x00000008#32 true].filter q := by
    rw [← hevs, filter_filter_reachesTarget hq]
  have count_of_kind {q : Event → Bool} (hq : ∀ e, q e = true → e.reachesTarget = true) :
      evs.countP q = [Event.apWrite 1 4 0x00000008#32 true].countP q := by
    rw [List.countP_eq_length_filter, of_kind hq, List.countP_eq_length_filter]
  refine ⟨evs, r.trace, of_kind fun e h => ?_, count_of_kind fun e h => ?_, count_of_kind fun e h => ?_,
    count_of_kind fun e h => ?_, hposted⟩ <;> simp [e.reachesTarget_iff, h]

end Sys2Proof.Machine
end

section
/-! SUPPORT. `UNLOCK` against answers that are all `Ok` (R150 to R162): the block's registers on the way,
and what each procedure and each step makes of them with given answers, composed to whole runs. -/

namespace Sys2Proof.Machine

/-! ### Answers, events and registers of a part -/

/-- What a command can change of a state besides taking answers and issuing events. -/
structure Registers where
  stepReg : UnlockStep
  snap : Option Snapshot
  pollCnt : Nat
  cause : Cause
  failStep : Fin 12
  result : Option Result
  posted : List PostedWrite

/-- `s` with these registers. -/
def State.withRegs (s : State) (r : Registers) : State :=
  { s with
    stepReg := r.stepReg, snap := r.snap, pollCnt := r.pollCnt, cause := r.cause,
    failStep := r.failStep, result := r.result, posted := r.posted }

theorem State.withRegs_after (s : State) (r : Registers) (n : Nat) (evs : List Event) :
    (s.withRegs r).after n evs = (s.after n evs).withRegs r := rfl

/-- Under the parameters `c` and with the coming answers `rs`, the part `f` issues `evs`, takes the
registers `a` to `b`, and ends with the value `v`. -/
def Yields {α : Type} (c : Config) (rs : List Reply) (evs : List Event) (a b : Registers)
    (f : State → Ending α) (v : α) : Prop :=
  ∀ s : State, s.config = c → s.upcoming rs.length = rs →
    f (s.withRegs a) = .ok v ((s.after rs.length evs).withRegs b)

/-- `m` parts of `UNLOCK` do so. -/
def Runs (c : Config) (m : Nat) (rs : List Reply) (evs : List Event) (a b : Registers) : Prop :=
  ∀ s : State, s.config = c → s.upcoming rs.length = rs →
    unlockRun m (s.withRegs a) = (s.after rs.length evs).withRegs b

section Rules

variable {α β : Type} {c : Config} {rs rs' : List Reply} {evs evs' : List Event} {a b d : Registers}
  {f : State → Ending α} {v : α} {w : β} {sn : Snapshot}

/-- The answers to two parts in sequence. -/
theorem State.upcoming_split {s : State} (evs : List Event)
    (h : s.upcoming (rs ++ rs').length = rs ++ rs') :
    s.upcoming rs.length = rs ∧ (s.after rs.length evs).upcoming rs'.length = rs' :=
  State.upcoming_append evs (by rwa [List.length_append] at h) rfl

theorem State.after_append (s : State) (rs rs' : List Reply) (evs evs' : List Event) :
    (s.after rs.length evs).after rs'.length evs' = s.after (rs ++ rs').length (evs ++ evs') := by
  rw [State.after_after, List.length_append]

/-- Two parts in sequence. -/
theorem Yields.andThen {g : α → State → Ending β} (hf : Yields c rs evs a b f v)
    (hg : Yields c rs' evs' b d (g v) w) :
    Yields c (rs ++ rs') (evs ++ evs') a d (fun s => (f s).andThen g) w := by
  intro s hc h
  obtain ⟨h1, h2⟩ := State.upcoming_split evs h
  show (f (s.withRegs a)).andThen g = _
  rw [hf s hc h1, Ending.andThen_ok, hg (s.after rs.length evs) hc h2, State.after_append]

theorem Yields.discard (h : Yields c rs evs a b f v) : Yields c rs evs a b (fun s => (f s).discard) () :=
  fun s hc hu => congrArg Ending.discard (h s hc hu)

/-- A part that needs a session, from what it does in one. -/
theorem Yields.of_session {g : Snapshot → State → Ending β} (hs : a.snap = some sn)
    (h : Yields c rs evs a b (g sn) w) : Yields c rs evs a b (fun s => (session s).andThen g) w := by
  intro s hc hu
  show (session (s.withRegs a)).andThen g = _
  rw [session_some (s := s.withRegs a) hs, Ending.andThen_ok, h s hc hu]

/-- The end of a part, with log items and a change of the registers. -/
theorem Yields.pure {F : State → State} (h : ∀ s : State, F (s.withRegs a) = (s.after 0 evs).withRegs b) :
    Yields c [] evs a b (fun s => .ok v (F s)) v := fun s _ _ => congrArg (Ending.ok v) (h s)

/-- A part after a delay. -/
theorem Yields.after_delay {g : State → Ending α} (ms : Config → Nat) (h : Yields c rs evs a b g v) :
    Yields c rs (.delay (ms c) :: evs) a b (fun s => g (s.delay (ms s.config))) v := by
  rintro s rfl hu
  show g ((s.withRegs a).delay (ms s.config)) = _
  rw [State.delay_eq_after, State.withRegs_after, h (s.after 0 _) rfl hu, State.after_after, Nat.zero_add]
  rfl

/-- An access answered `Ok`. -/
theorem Yields.of_nextReply {x : Word}
    (h : ∀ s : State, s.config = c → s.nextReply = .ok x →
      f (s.withRegs a) = .ok v ((s.after 1 evs).withRegs b)) :
    Yields c [.ok x] evs a b f v := fun s hc hu => h s hc ((s.nextReply_eq_iff _).2 hu)

theorem unlockRun_add (m n : Nat) (s : State) : unlockRun (m + n) s = unlockRun n (unlockRun m s) := by
  induction m generalizing s with
  | zero => rw [Nat.zero_add, unlockRun]
  | succ m ih => rw [Nat.succ_add, unlockRun, unlockRun, ih]

theorem Runs.trans {m n : Nat} (h : Runs c m rs evs a b) (k : Runs c n rs' evs' b d) :
    Runs c (m + n) (rs ++ rs') (evs ++ evs') a d := by
  intro s hc hu
  obtain ⟨h1, h2⟩ := State.upcoming_split evs hu
  rw [unlockRun_add, h s hc h1, k (s.after rs.length evs) hc h2, State.after_append]

/-- The same answers and events, written otherwise. -/
theorem Runs.congr {m : Nat} (h : Runs c m rs evs a b) (hr : rs = rs') (he : evs = evs') :
    Runs c m rs' evs' a b := hr ▸ he ▸ h

/-- A step that goes on runs its body. -/
theorem Runs.of_yields {body : State → Ending Unit} (h : Yields c rs evs a b body ()) (n : Fin 12)
    (target : UnlockStep)
    (advance : ∀ s, s.stepReg = a.stepReg → unlockAdvance s = (body s).leaveStep n target) :
    Runs c 1 rs evs a { b with stepReg := target } := by
  intro s hc hu
  rw [unlockRun, unlockRun, advance (s.withRegs a) rfl, h s hc hu]
  rfl

theorem Runs.resting (n : Nat) (h : a.stepReg.resting = true) : Runs c n [] [] a a := fun s _ _ => by
  rw [unlockRun_resting n (s := s.withRegs a) h]
  exact congrArg (State.withRegs · a) s.after_zero_nil.symm

end Rules

/-! ### The accesses and the procedures -/

section Parts

variable {c : Config} {a : Registers} {sn : Snapshot} {st ct v x : Word}

theorem apRead_yields (off : Nat) : Yields c [.ok v] [.apRead 1 off (some v)] a a (apRead off) v :=
  .of_nextReply fun s _ h => apRead_ok (s := s.withRegs a) h

theorem apWriteControl_yields (w : Word) :
    Yields c [.ok x] [.apWrite 1 4 w true] a a (apWriteControl w) () :=
  .of_nextReply fun s _ h => apWriteControl_ok (s := s.withRegs a) h

theorem probeAttach_yields : Yields c [.ok x] [.probeAttach true] a a probeAttach () :=
  .of_nextReply fun s _ h => probeAttach_ok (s := s.withRegs a) h

theorem probeTargetReset_yields : Yields c [.ok x] [.probeTargetReset true] a a probeTargetReset () :=
  .of_nextReply fun s _ h => probeTargetReset_ok (s := s.withRegs a) h

/-- The body of `S1` (R152). -/
theorem attach_yields {y : Word} : Yields c [.ok x, .ok y] [.probeAttach true, .probeTargetReset true] a a
    (fun s => (probeAttach s).andThen fun _ s => probeTargetReset s) () :=
  probeAttach_yields.andThen probeTargetReset_yields

theorem memRead_yields : Yields c [.ok v] [.memRead c.dhcsrAddr (some v)] a a
    (fun s => memRead s.config.dhcsrAddr s) v :=
  .of_nextReply fun s hc h => by
    subst hc
    exact memRead_ok (s := s.withRegs a) h

theorem memWrite_yields : Yields c [.ok x] [.memWrite c.dhcsrAddr c.dhcsrHaltWord true] a
    { a with posted := a.posted ++ [⟨c.dhcsrAddr, c.dhcsrHaltWord⟩] }
    (fun s => memWrite s.config.dhcsrAddr s.config.dhcsrHaltWord s) () :=
  .of_nextReply fun s hc h => by
    subst hc
    exact memWrite_ok (s := s.withRegs a) h

theorem memFlush_yields : Yields c [.ok x] [.memFlush true] a { a with posted := [] } memFlush () :=
  .of_nextReply fun s _ h => memFlush_ok (s := s.withRegs a) h

theorem reload_yields : Yields c [.ok st, .ok ct] (reloadEvents st ct) a a reload (st, ct) :=
  fun s _ h => reload_ok (s := s.withRegs a) h

theorem readProc_yields : Yields c [.ok st, .ok ct] (reloadEvents st ct ++ [Event.log (.snapshot st ct)]) a
    { a with snap := some ⟨st, ct⟩ } (readProc true) (st, ct) :=
  reload_yields.andThen (.pure fun _ => rfl)

theorem refreshProc_yields (hs : a.snap = some sn) : Yields c [.ok st, .ok ct]
    (reloadEvents st ct ++ [Event.log (.snapshot st ct)]) a { a with snap := some ⟨st, ct⟩ }
    (refreshProc true) (st, ct) :=
  .of_session hs readProc_yields

theorem refreshAndReportProc_yields (label : Word) (hs : a.snap = some sn) : Yields c [.ok st, .ok ct]
    (reloadEvents st ct ++ [Event.log (.reason label), .log (.diff (diffEntries sn ⟨st, ct⟩))]) a
    { a with snap := some ⟨st, ct⟩ } (refreshAndReportProc label) (st, ct) :=
  .of_session hs (reload_yields.andThen (.pure fun s => by
    rw [State.log_eq_after, State.log_eq_after, State.after_after]
    rfl))

theorem writeControlBitSetProc_yields (mask : Word) (hs : a.snap = some sn) :
    Yields c [.ok x] [.apWrite 1 4 (sn.control ||| mask) true] a a (writeControlBitSetProc mask) () :=
  .of_session hs (apWriteControl_yields _)

/-- The body of `S7`: the request is the baseline with bit 2 set, and the diff is against it (R158). -/
theorem debugRequest_yields (hs : a.snap = some sn) : Yields c [.ok x, .ok st, .ok ct]
    ([Event.apWrite 1 4 (sn.control ||| 0x00000004#32) true] ++ reloadEvents st ct ++
      [Event.log (.reason 0x00000001#32), .log (.diff (diffEntries sn ⟨st, ct⟩))]) a
    { a with snap := some ⟨st, ct⟩ }
    (fun s => (writeControlBitSetProc maskDebugRequest s).andThen fun _ s =>
      (refreshAndReportProc reasonDbgReq s).discard) () :=
  (writeControlBitSetProc_yields maskDebugRequest hs).andThen
    (refreshAndReportProc_yields reasonDbgReq hs).discard

/-- The complement of bit 3 is `0xFFFFFFF7` (R127). -/
theorem clearResetRequestProc_yields (hs : a.snap = some sn) :
    Yields c [.ok x] [.apWrite 1 4 (sn.control &&& 0xFFFFFFF7#32) true] a a clearResetRequestProc () :=
  .of_session hs (apWriteControl_yields _)

/-- The identity check logs the value, and a warning where it is not the expected one (R155). -/
theorem identityCheck_yields : Yields c [.ok v] ([Event.apRead 1 0xFC (some v), .log (.idrValue v)] ++
    if v = 0x001C0020#32 then [] else [Event.log (.idrWarning v 0x001C0020#32)]) a a
    (fun s => (readIdrProc s).andThen fun r s => .ok () (s.logIdr r)) () :=
  (apRead_yields offIdr).andThen (.pure fun s => by
    rw [State.logIdr, idrExpected]
    split
    · rfl
    · rw [State.log_eq_after, State.log_eq_after, State.after_after]
      rfl)

/-- The halt of `S8`; its flush delivers the posted words (R159, R67). -/
theorem haltProc_yields {before after ackWrite ackFlush : Word} :
    Yields c [.ok before, .ok ackWrite, .ok ackFlush, .ok after]
      [.memRead c.dhcsrAddr (some before), .memWrite c.dhcsrAddr c.dhcsrHaltWord true, .memFlush true,
        .delay c.haltSettleMs, .memRead c.dhcsrAddr (some after), .log (.dhcsr before after)]
      a { a with posted := [] } haltProc () :=
  memRead_yields.andThen (memWrite_yields.andThen (memFlush_yields.andThen
    (.after_delay Config.haltSettleMs (memRead_yields.andThen (.pure fun _ => rfl)))))

theorem releaseProc_yields {final : Word} (hs : a.snap = some sn) :
    Yields c [.ok x, .ok st, .ok ct, .ok final]
      ([Event.apWrite 1 4 (sn.control &&& 0xFFFFFFF7#32) true, .delay c.resetReleaseMs] ++ reloadEvents st ct ++
        [Event.log (.snapshot st ct), .memRead c.dhcsrAddr (some final), .log (.dhcsrFinal final)])
      a { a with snap := some ⟨st, ct⟩ } releaseProc () :=
  (clearResetRequestProc_yields hs).andThen (.after_delay Config.resetReleaseMs
    ((refreshProc_yields hs).andThen (memRead_yields.andThen (.pure fun _ => rfl))))

end Parts

/-! ### The waits -/

section Waits

variable {c : Config} {a : Registers} {sn : Snapshot} {x w s0 c0 s1 c1 : Word} {vs : List Word}

/-- A wait for the reset that the poll after `vs` ends (R141). -/
theorem waitResetAssertedProc_yields (hs : a.snap = some sn) (hv : ∀ v ∈ vs, v.getLsbD 3 = true)
    (hn : vs.length < c.resetPollMax) (hw : w.getLsbD 3 = false) :
    Yields c (Reply.ok x :: (vs.map Reply.ok ++ [Reply.ok w]))
      (Event.apWrite 1 4 0x00000008#32 true ::
        (delayedPolls c.resetPollDelayMs vs ++ [Event.apRead 1 0 (some w)]))
      a { a with snap := some ⟨w, sn.control⟩, pollCnt := vs.length + 1 } waitResetAssertedProc () := by
  rintro s rfl h
  have hl : (Reply.ok x :: (vs.map Reply.ok ++ [Reply.ok w])).length = 1 + vs.length + 1 := by
    simp [Nat.add_comm]
  rw [hl] at h ⊢
  exact waitResetAssertedProc_seen (s := s.withRegs a) hs hv hn hw h

/-- A wait for the flash that the poll after `vs` ends (R142, R144). -/
theorem waitFlashReadyProc_yields (hs : a.snap = some sn) (hv : ∀ v ∈ vs, v.getLsbD 1 = false)
    (hd : c.flashPollDelayMs = none) (hn : vs.length < c.flashPollMax) (hw : w.getLsbD 1 = true) :
    Yields c ([Reply.ok s0, .ok c0] ++ vs.map Reply.ok ++ [Reply.ok w, .ok s1, .ok c1])
      (reloadEvents s0 c0 ++ plainPolls vs ++ [Event.apRead 1 0 (some w)] ++ reloadEvents s1 c1)
      a { a with snap := some ⟨s1, c1⟩, pollCnt := vs.length + 1 } waitFlashReadyProc () := by
  rintro s rfl h
  have hl : ([Reply.ok s0, .ok c0] ++ vs.map Reply.ok ++ [Reply.ok w, .ok s1, .ok c1] : List Reply).length =
      2 + vs.length + 3 := by
    rw [List.length_append, length_openingReplies]
    rfl
  rw [hl] at h ⊢
  obtain ⟨t, rfl, he, hr⟩ := waitFlashReadyProc_seen (s := s.withRegs a) hs hv hd hn hw h
  rw [he, closeFlashWait_ok hr, State.inWait_after]
  rfl

end Waits

/-! ### The steps and whole runs -/

/-- The start of `UNLOCK` sets all its registers but the result and the posted words (R151). -/
def State.startRegs (s : State) : Registers := ⟨.s1, none, 0, .none, 0, s.result, s.posted⟩

theorem unlockStart_eq_withRegs (s : State) : unlockStart s = s.withRegs s.startRegs := rfl

section Steps

variable {c : Config} {a : Registers} {sn : Snapshot} {st ct : Word}

/-- `S6` goes on where the security bit is 0 (R157). -/
theorem runs_s6_open (ha : a.stepReg = .s6) (hs : a.snap = some sn) (hq : st.getLsbD 2 = false) :
    Runs c 1 [.ok st, .ok ct] (reloadEvents st ct ++ [Event.log (.snapshot st ct)]) a
      { a with stepReg := .s7, snap := some ⟨st, ct⟩ } := by
  intro s hc h
  have hopen : (decodeStatus st).security ≠ true := Bool.eq_false_iff.1 hq
  rw [unlockRun, unlockRun, unlockAdvance_s6 (s := s.withRegs a) ha,
    unlockS6_of_ok (refreshProc_yields hs s hc h), if_neg hopen]
  rfl

/-- `S6` ends with the guidance where it is 1 (R157, R192). -/
theorem runs_s6_secured (ha : a.stepReg = .s6) (hs : a.snap = some sn) (hq : st.getLsbD 2 = true) :
    Runs c 1 [.ok st, .ok ct] (reloadEvents st ct ++ [Event.log (.snapshot st ct), .log .securedGuidance]) a
      ⟨.abortSecured, none, a.pollCnt, .targetSecured, 6, some ⟨false, .targetSecured, 6, 0, 0, []⟩,
        a.posted⟩ := by
  intro s hc h
  have hsecured : (decodeStatus st).security = true := hq
  rw [unlockRun, unlockRun, unlockAdvance_s6 (s := s.withRegs a) ha,
    unlockS6_of_ok (refreshProc_yields hs s hc h), if_pos hsecured, securedExit, State.log_eq_after,
    State.withRegs_after, State.after_after]
  rfl

/-- `S11` ends with success (R162). -/
theorem runs_s11 (ha : a.stepReg = .s11) (hs : a.snap = some sn) :
    Runs c 1 [.ok st, .ok ct] (reloadEvents st ct ++ [Event.log (.snapshot st ct)]) a
      { a with stepReg := .done, snap := none, result := some ⟨true, a.cause, a.failStep, 0, 0, []⟩ } := by
  intro s hc h
  rw [unlockRun, unlockRun, unlockAdvance_s11 (s := s.withRegs a) ha, unlockS11, refreshProc_yields hs s hc h]
  rfl

/-- `S1` to `S6` (R152 to R157); `items` is what `S6` logs after the snapshot. -/
theorem runs_to_s6 {b : Registers} {items : List Event} (u : UnlockAnswers) (hw : u.waitsEnd c)
    (hd : c.flashPollDelayMs = none) (ha : a.stepReg = .s1)
    (s6 : Runs c 1 [.ok u.status6, .ok u.control6]
      (reloadEvents u.status6 u.control6 ++ Event.log (.snapshot u.status6 u.control6) :: items)
      { a with
        stepReg := .s6, snap := some ⟨u.statusClose, u.controlClose⟩, pollCnt := u.flashPolls.length + 1 } b) :
    Runs c 6 u.repliesToS6 (u.eventsToS6 c ++ items) a b := by
  obtain ⟨hresetMax, hresetPolls, hreset, hflashMax, hflashPolls, hflash⟩ := hw
  have s1 := Runs.of_yields (attach_yields (c := c) (a := a) (x := u.ackAttach) (y := u.ackReset)) 1 .s2
    fun _ h => unlockAdvance_s1 (h.trans ha)
  have s2 := s1.trans (.of_yields (readProc_yields (st := u.status2) (ct := u.control2)).discard 2 .s3
    fun _ h => unlockAdvance_s2 h)
  have s3 := s2.trans (.of_yields (waitResetAssertedProc_yields (x := u.ackWrite3) rfl hresetPolls hresetMax
    hreset) 3 .s4 fun _ h => unlockAdvance_s3 h)
  have s4 := s3.trans (.of_yields (identityCheck_yields (v := u.idr)) 4 .s5 fun _ h => unlockAdvance_s4 h)
  have s5 := s4.trans (.of_yields (waitFlashReadyProc_yields (s0 := u.statusOpen) (c0 := u.controlOpen)
    (s1 := u.statusClose) (c1 := u.controlClose) rfl hflashPolls hd hflashMax hflash) 5 .s6
    fun _ h => unlockAdvance_s5 h)
  refine (s5.trans s6).congr ?_ ?_
  · simp [UnlockAnswers.repliesToS6]
  · simp [UnlockAnswers.eventsToS6, reloadEvents]

/-- `S7` to `S11` (R158 to R162). -/
theorem runs_from_s7 (u : UnlockAnswers) (ha : a.stepReg = .s7)
    (hs : a.snap = some ⟨u.status6, u.control6⟩) :
    Runs c 5 u.repliesFromS7 (u.eventsFromS7 c) a { a with
      stepReg := .done, snap := none, result := some ⟨true, a.cause, a.failStep, 0, 0, []⟩, posted := [] } := by
  have s7 := Runs.of_yields (debugRequest_yields (c := c) (x := u.ackWrite7) (st := u.status7)
    (ct := u.control7) hs) 7 .s8 fun _ h => unlockAdvance_s7 (h.trans ha)
  have s8 := s7.trans (.of_yields (haltProc_yields (before := u.dhcsrBefore) (after := u.dhcsrAfter)
    (ackWrite := u.ackWrite8) (ackFlush := u.ackFlush)) 8 .s9 fun _ h => unlockAdvance_s8 h)
  have s9 := s8.trans (.of_yields (refreshProc_yields (st := u.status9) (ct := u.control9) rfl).discard 9 .s10
    fun _ h => unlockAdvance_s9 h)
  have s10 := s9.trans (.of_yields (releaseProc_yields (x := u.ackWrite10) (st := u.status10)
    (ct := u.control10) (final := u.dhcsrFinal) rfl) 10 .s11 fun _ h => unlockAdvance_s10 h)
  have s11 := s10.trans (runs_s11 (st := u.status11) (ct := u.control11) rfl rfl)
  refine s11.congr ?_ ?_
  · simp [UnlockAnswers.repliesFromS7]
  · simp [UnlockAnswers.eventsFromS7, reloadEvents]

end Steps

/-- A run of all the steps is the command (R150). -/
theorem Runs.exec_unlock {s : State} {rs : List Reply} {evs : List Event} {b : Registers}
    (h : Runs s.config 11 rs evs s.startRegs b) (hu : s.upcoming rs.length = rs) :
    exec .unlock s = .next ((s.after rs.length evs).withRegs b) := by
  rw [Machine.exec_unlock, unlockStart_eq_withRegs, h s rfl hu]

end Sys2Proof.Machine
end

section
/-! PROOFS. The statements on `UNLOCK` against answers that are all `Ok`. -/

namespace Sys2Proof.Machine

/-- Settles O36: the eleven steps one after another; none looks at a value but the polls and `S6`. -/
theorem unlockSucceeds : Obligations.UnlockSucceeds := by
  intro s a hw hq hd h
  have to_s6 := runs_to_s6 (a := s.startRegs) (items := []) a hw hd rfl (runs_s6_open rfl rfl hq)
  rw [List.append_nil] at to_s6
  exact Runs.exec_unlock (to_s6.trans (runs_from_s7 a rfl rfl)) h

/-- Settles O37: the same steps up to `S6`, which ends the run. -/
theorem unlockSecuredAbort : Obligations.UnlockSecuredAbort := by
  intro s a hw hq hd h
  have to_s6 := runs_to_s6 (a := s.startRegs) a hw hd rfl (runs_s6_secured rfl rfl hq)
  exact Runs.exec_unlock
    ((to_s6.trans (.resting 5 rfl)).congr (List.append_nil _) (List.append_nil _)) h

end Sys2Proof.Machine
end

section
/-! SUPPORT. The ends of every command (60_exceptions.md): a failure is precise, and a command that is not
refused succeeds or fails with a cause of its own. -/

namespace Sys2Proof.Machine

/-! ### The failed transaction is the cause (R185, R195) -/

/-- Every command is precise: its last transaction was answered `Err` when it ends with a transport
cause, and otherwise none was. -/
theorem exec_precise {s t : State} {i : Instr} (h : exec i s = .next t) :
    ∃ evs, t.trace = s.trace ++ evs ∧ Precise s t.cause evs := by
  by_cases hi : i = .unlock
  · subst hi
    obtain ⟨evs, r, -, hp, -⟩ := unlock_ends h
    exact ⟨evs, r.trace, hp⟩
  · obtain ⟨d0, d1, entries, rfl⟩ | ⟨body, hb, rfl⟩ := exec_cases hi h
    · exact ⟨[], (ran_codecDone s d0 d1 entries).trace,
        fun _ => ⟨fun q => Bool.noConfusion q, fun _ => noErr_nil⟩⟩
    · obtain ⟨evs, r, -, -, -, hp, -⟩ := standalone_ends (hb.follows s.accept)
      exact ⟨evs, r.trace, hp⟩

/-! ### The three ways to end (R180, R95) -/

/-- `t` holds the end of a command accepted or refused in `s`: its result copies the registers, and it is
a success, a failure (causes 3 to 9), or a refusal (causes 10 and 11) that left the trace, the snapshot
and the step register of `s`. -/
def EndsInOneOfThreeWays (s t : State) : Prop :=
  ∃ r, t.result = some r ∧ r.cause = t.cause ∧ r.failStep = t.failStep ∧
    ((r.ok = true ∧ t.cause = .none ∧ t.failStep = 0) ∨
     (r.ok = false ∧ r.d0 = 0 ∧ r.d1 = 0 ∧ 3 ≤ (causeCode t.cause).toNat ∧ (causeCode t.cause).toNat ≤ 9) ∨
     (r.ok = false ∧ r.d0 = 0 ∧ r.d1 = 0 ∧ 10 ≤ (causeCode t.cause).toNat ∧
      (causeCode t.cause).toNat ≤ 11 ∧ t.trace = s.trace ∧ t.snap = s.snap ∧ t.stepReg = s.stepReg))

theorem EndsInOneOfThreeWays.of_success {s t : State} {d0 d1 : Word} {entries : List DiffEntry}
    (hc : t.cause = .none) (hf : t.failStep = 0)
    (hr : t.result = some ⟨true, .none, 0, d0, d1, entries⟩) : EndsInOneOfThreeWays s t :=
  ⟨_, hr, hc.symm, hf.symm, .inl ⟨rfl, hc, hf⟩⟩

theorem EndsInOneOfThreeWays.of_failure {s t : State}
    (hc : 3 ≤ (causeCode t.cause).toNat ∧ (causeCode t.cause).toNat ≤ 9)
    (hr : t.result = some ⟨false, t.cause, t.failStep, 0, 0, []⟩) : EndsInOneOfThreeWays s t :=
  ⟨_, hr, rfl, rfl, .inr (.inl ⟨rfl, rfl, rfl, hc⟩)⟩

theorem EndsInOneOfThreeWays.of_refusal (s : State) {c : Cause}
    (hc : 10 ≤ (causeCode c).toNat ∧ (causeCode c).toNat ≤ 11) : EndsInOneOfThreeWays s (s.failedIn c 0) :=
  ⟨_, rfl, rfl, rfl, .inr (.inr ⟨rfl, rfl, rfl, hc.1, hc.2, rfl, rfl, rfl⟩)⟩

theorem causeCode_of_mem_standaloneCauses :
    ∀ c ∈ standaloneCauses, 3 ≤ (causeCode c).toNat ∧ (causeCode c).toNat ≤ 9 := by
  decide

theorem causeCode_of_mem_stepCauses :
    ∀ n, ∀ c ∈ stepCauses n, 3 ≤ (causeCode c).toNat ∧ (causeCode c).toNat ≤ 9 := by
  decide

/-- The cause a command issued on its own records, when it records one, is one its body can raise. -/
theorem standalone_cause_mem {body : State → Ending (Word × Word)} {s : State} {causes : List Cause}
    (hf : (body s.accept).Follows s.accept) (hc : (body s.accept).CausesIn causes)
    (hn : (standalone body s).cause ≠ .none) : (standalone body s).cause ∈ causes := by
  unfold standalone at *
  cases e : body s.accept with
  | ok d t =>
    rw [e] at hf hn
    obtain ⟨evs, w, -⟩ := hf
    exact absurd w.cause hn
  | fail c t =>
    rw [e] at hc
    exact hc

theorem unlock_endsInOneOfThreeWays {s t : State} (h : exec .unlock s = .next t) :
    EndsInOneOfThreeWays s t := by
  obtain ⟨evs, -, -, -, ⟨-, hcause, hstep, hres⟩ | ⟨-, hcause, hstep, hres, -⟩ |
    ⟨-, hcause, hres, -⟩⟩ := unlock_ends h
  · exact .of_success hcause hstep hres
  · exact .of_failure (by rw [hcause]; decide) (by rw [hres, hcause, hstep])
  · exact .of_failure (causeCode_of_mem_stepCauses _ _ hcause) hres

/-- A command that is not refused for want of a session succeeds or fails (R95, R190). -/
theorem PlainBody.endsInOneOfThreeWays {i : Instr} {body : State → Ending (Word × Word)} {s : State}
    (hb : PlainBody i body) (hs : needsSnapshot i = false ∨ s.snap.isSome = true) :
    EndsInOneOfThreeWays s (standalone body s) := by
  obtain ⟨evs, -, -, hstep, -, -, ⟨d0, d1, hcause, hres⟩ | ⟨hcause, hres⟩⟩ :=
    standalone_ends (hb.follows s.accept)
  · exact .of_success hcause hstep hres
  · have hmem := standalone_cause_mem (hb.follows s.accept) (hb.causes s.accept hs) hcause
    exact .of_failure (causeCode_of_mem_standaloneCauses _ hmem) (by rw [hres, hstep])

/-- Every command ends, in one of the three ways. -/
theorem exec_endsInOneOfThreeWays (i : Instr) (s : State) :
    ∃ t, exec i s = .next t ∧ EndsInOneOfThreeWays s t := by
  rcases exec_kinds i with rfl | hcodec | ⟨body, hb⟩
  · exact ⟨_, exec_unlock s, unlock_endsInOneOfThreeWays (exec_unlock s)⟩
  · obtain ⟨d0, d1, entries, he⟩ := exec_codec i hcodec s
    exact ⟨_, he, .of_success rfl rfl rfl⟩
  · by_cases hs : needsSnapshot i = false ∨ s.snap.isSome = true
    · exact ⟨_, hb.exec_eq s, hb.endsInOneOfThreeWays hs⟩
    · obtain ⟨hi, hnone⟩ := not_or.1 hs
      exact ⟨_, exec_of_no_session (by simpa using hi) (by simpa using hnone), .of_refusal s (by decide)⟩

end Sys2Proof.Machine
end

section
/-! PROOFS. The statements on the ends of a command: the refusal for want of a session, the precise
failure, and the three ways a presented word can end. -/

namespace Sys2Proof.Machine

/-- Settles O26: the body of each of the eight commands asks for the session first. -/
theorem noSessionRefusal : Obligations.NoSessionRefusal := fun _ _ => exec_of_no_session

/-- Settles O43: the two halves of what makes a command precise, in the other order. -/
theorem failureIsPrecise : Obligations.FailureIsPrecise := by
  intro s t i hpolicy h
  obtain ⟨evs, htrace, hp⟩ := exec_precise h
  obtain ⟨hlast, hnone⟩ := hp hpolicy
  exact ⟨evs, htrace, hnone, hlast⟩

/-- Settles O10: a word that decodes ends as its command does, and any other is refused. -/
theorem commandEndsInOneOfThreeWays : Obligations.CommandEndsInOneOfThreeWays := by
  intro s w ports rest hin
  have hend : ∃ t, step s = .next t ∧ EndsInOneOfThreeWays (s.present rest ports) t := by
    rw [step_of_command hin]
    rcases hd : decode w with d | i
    · exact ⟨_, runWord_of_decode_error hd _, .of_refusal _ (by decide)⟩
    · rw [runWord_of_decode_ok hd]
      exact exec_endsInOneOfThreeWays i _
  obtain ⟨t, hstep, r, hend⟩ := hend
  exact ⟨t, r, hstep, hend⟩

end Sys2Proof.Machine
end

section
/-! PROOFS. The statements on the reset of the block between commands, and on the update that a second
bit-set from the same baseline loses. -/

namespace Sys2Proof.Machine

/-- Settles O6: the step is the reset of the block, and each register is what that reset makes of it. -/
theorem blockResetTouchesNothingElse : Obligations.BlockResetTouchesNothingElse := fun _ _ hin =>
  ⟨_, step_of_reset hin, State.blockReset_snap _, State.blockReset_stepReg _, State.blockReset_pollCnt _,
    State.blockReset_cause _, State.blockReset_failStep _, State.blockReset_trace _,
    State.blockReset_asked _, State.blockReset_script _, State.blockReset_posted _,
    State.blockReset_config _, State.blockReset_inputs _, State.blockReset_sidePorts _,
    State.blockReset_result _⟩

/-- Settles O28: the first set leaves the snapshot, so the second starts from the same baseline. -/
theorem lostUpdate : Obligations.LostUpdate := by
  intro s m n st b x y hs h
  obtain ⟨hx, hy⟩ := (s.upcoming_cons 1 _ _ [.apWrite 1 4 (b ||| m) true]).1 h
  obtain ⟨hfirst, -⟩ := writeControlBitSetCommand s m x ⟨st, b⟩
  obtain ⟨hsecond, -⟩ := writeControlBitSetCommand
    ((s.after 1 [.apWrite 1 4 (b ||| m) true]).succeeded 0 0) n y ⟨st, b⟩
  refine ⟨_, _, hfirst hs ((s.nextReply_eq_iff _).1 hx), hsecond hs hy, ?_, rfl⟩
  simp [State.succeeded]

end Sys2Proof.Machine
end
